-- ==== Sys2Proof/Word.lean ====
section
/-! DEFINITION. The words of the Jelpa 3N46: bytes of the port and link frames, and the 32-bit values of
its objects and operands (spec 11_object_frame_and_record_reference, R174, R175). -/

namespace Sys2Proof

/-- One byte of a port frame or a link frame (R175, R176). -/
abbrev Byte := BitVec 8

/-- A 32-bit object value or request operand (R174). -/
abbrev Word := BitVec 32

end Sys2Proof
end

