-- ==== Sys2Proof/Config.lean ====
section
/-! DEFINITION. What the manual leaves open: constants without a body, so that nothing can be proved about
which value they have (notes/assumptions 3, 4 and 5). -/

namespace Sys2Proof.Config

/-- The k-th value the spec does not state: the 32-bit value compared by a CHECK or an EXCHANGE of an object
that has no 32-bit value at that moment, and an outage length too long for 32 bits.  The argument is the
free-value counter `State.freeCount`, so that two draws are independent (notes/assumptions/3.md). -/
opaque unstatedValue : Nat → Word

/-- Which checkpoint copy is the valid one when both checks are correct and neither generation is the other's
plus one: R150 gives no choice for that case.  The arguments are the generations of X and Y; `true` names X
(notes/assumptions/4.md). -/
opaque ungovernedCopyIsX : Nat → Nat → Bool

end Sys2Proof.Config
end

