-- ==== Sys2Proof/Syntax.lean ====
section
/-! DEFINITION. The commands of the 3N46: one constructor of `Instr` for each row of spec/opcode_table.json,
with the operands that the row's rule gives it.  The commands are the events of the part and the requests of
its three ports (notes/assumptions/1.md and 2.md say how the rows stand to one another). -/

namespace Sys2Proof

/-- The three phases; each has one sensing link (chapter 1). -/
inductive Phase where
  | p1 | p2 | p3
  deriving DecidableEq, Repr

/-- The three serial ports (Table 0-2). -/
inductive Port where
  | utility | premises | service
  deriving DecidableEq, Repr

/-- The sixteen object groups, in the order of Table 0-6. -/
inductive Group where
  | ident | live | links | calibration | netting | registers | schedule | time
  | envelopeUtility | envelopeSite | log | freeze | test | events | rights | service
  deriving DecidableEq, Repr

/-- The two quantities a calibration set scales: a gain or an offset of voltage or of current (R20). -/
inductive Quantity where
  | voltage | current
  deriving DecidableEq, Repr

/-- Who sent a request: the port it came in by, and the tag its answer echoes (Table 10-2). -/
structure Sender where
  port : Port
  tag : Byte
  deriving DecidableEq, Repr

/-- The two forms in which a value object is written (R162). -/
inductive WriteForm where
  | write (value : Word)
  | exchange (expected new : Word)
  deriving DecidableEq, Repr

/-- The three forms in which the enable set is written (R163, R171). -/
inductive SetForm where
  | write (value : Word)
  | modify (mask value : Word)
  | exchange (expected new : Word)
  deriving DecidableEq, Repr

/-- The forms of a REGISTER_WRITE: WRITE with one or two operands, or EXCHANGE (R160, R162). -/
inductive ValueForm where
  | write (value : Word)
  | writeTwo (first second : Word)
  | exchange (expected new : Word)
  deriving DecidableEq, Repr

/-- What a write of the pending schedule names (R85, Table 5-4): the entry at the port's table cursor, the
pending revision, or the count of a list. -/
inductive PendingTarget where
  | entry
  | revision
  | specialCount
  | switchCount (dayType : Fin 4)
  deriving DecidableEq, Repr

/-- The two cursor objects that a SELECT can name (R164). -/
inductive CursorObject where
  | schedule | freeze
  deriving DecidableEq, Repr

/-- The moments at which a failure of VDD defeats a save that the rules tell apart (R151, R155): between the two copies
of a CLEAR ALL's save, in RESTORING before the completion mark has been erased, or at any other moment
(notes/assumptions/11.md). -/
inductive PowerCut where
  | plain | betweenCopies | beforeErasure
  deriving DecidableEq, Repr

/-- A command of the part: one constructor for each row of spec/opcode_table.json, in the table's order.
The rows from `registerWrite` on are requests: each is the arrival of the whole request frame that spells it
(notes/assumptions/2.md). -/
inductive Instr where
  /-- STROBE_ISSUE (R1). -/
  | strobeIssue
  /-- IDENTIFY_COUNTDOWN_EXPIRY (R2). -/
  | identifyCountdownExpiry (φ : Phase)
  /-- MISSING_RUN_EXPIRY (R9). -/
  | missingRunExpiry (φ : Phase)
  /-- SUBSTITUTION_RUN_EXPIRY (R16). -/
  | substitutionRunExpiry (φ : Phase)
  /-- UPSTREAM_FRAME (R3): the bytes received on one link before an idle (R176). -/
  | upstreamFrame (φ : Phase) (bytes : List Byte)
  /-- SAMPLE_SET_TAKE (R26). -/
  | sampleSetTake
  /-- SECOND_BOUNDARY (R60). -/
  | secondBoundary
  /-- BOUNDARY_NOTICE (R28). -/
  | boundaryNotice
  /-- NETTING_SUMMARY_ARRIVAL (R41). -/
  | nettingSummaryArrival
  /-- DISPATCH_ACKNOWLEDGMENT (R42). -/
  | dispatchAcknowledgment
  /-- TARIFF_DISPATCH (R77). -/
  | tariffDispatch
  /-- INTERVAL_SUMMARY_ARRIVAL (R68). -/
  | intervalSummaryArrival
  /-- ENVELOPE_STATUS_ARRIVAL (R68). -/
  | envelopeStatusArrival
  /-- INTERVAL_DISPATCH_ARRIVAL (R68). -/
  | intervalDispatchArrival
  /-- ENVELOPE_SUMMARY_ARRIVAL (R115). -/
  | envelopeSummaryArrival
  /-- TERM_LAPSE (R118). -/
  | termLapse
  /-- GRACE_EXPIRY (R125). -/
  | graceExpiry
  /-- HOLD_EXPIRY (R125). -/
  | holdExpiry
  /-- PULSE_HAND_OFF (R133). -/
  | pulseHandOff
  /-- ACTIVE_PERIOD_END (R135). -/
  | activePeriodEnd
  /-- GAP_PERIOD_END (R135). -/
  | gapPeriodEnd
  /-- TEST_TIMER_EXPIRY (R139). -/
  | testTimerExpiry
  /-- RECORD_INTAKE (R100). -/
  | recordIntake
  /-- COMMIT_COMPLETE (R101). -/
  | commitComplete
  /-- CHECKPOINT_NOTICE (R150). -/
  | checkpointNotice
  /-- CHECKPOINT_WRITE_END (R150). -/
  | checkpointWriteEnd
  /-- SUPOK_FALL (R144). -/
  | supokFall
  /-- SUPOK_RISE (R144). -/
  | supokRise
  /-- SAVE_START (R146). -/
  | saveStart
  /-- SAVE_COMPLETE (R146). -/
  | saveComplete
  /-- POWER_UP (R144): VDD rises, with the level of SUPOK found then. -/
  | powerUp (supokHigh : Bool)
  /-- SAVE_DEFEATED (R151), with the moment at which VDD fails. -/
  | saveDefeated (cut : PowerCut)
  /-- BACKUP_DOMAIN_LOSS (R149). -/
  | backupDomainLoss
  /-- BACKUP_CLOCK_TICK (R149). -/
  | backupClockTick
  /-- ASSEMBLY_RESTORE (R19). -/
  | assemblyRestore
  /-- METROLOGY_RESTORE (R36). -/
  | metrologyRestore
  /-- NETTING_RESTORE (R55). -/
  | nettingRestore
  /-- TIME_BASE_RESTORE (R74). -/
  | timeBaseRestore
  /-- INTERVAL_RESTORE (R75). -/
  | intervalRestore
  /-- TARIFF_RESTORE (R97). -/
  | tariffRestore
  /-- LOG_RESTORE (R114). -/
  | logRestore
  /-- ENVELOPE_RESTORE (R132). -/
  | envelopeRestore
  /-- PULSE_RESTORE (R143). -/
  | pulseRestore
  /-- ENGINE_RESTORE (R173). -/
  | engineRestore
  /-- RESTORE_COMPLETE (R153). -/
  | restoreComplete
  /-- CALEN_CHANGE (R168): the level that CALEN changes to. -/
  | calenChange (closed : Bool)
  /-- REQUEST_FRAME (R156): the body and the frame check of the frame being received. -/
  | requestFrame (p : Port) (body : List Byte) (check : BitVec 16)
  /-- FRAME_GAP (R156). -/
  | frameGap (p : Port)
  /-- ANSWER_SENT (R158). -/
  | answerSent
  /-- REGISTER_WRITE (R162). -/
  | registerWrite (f : Sender) (object : BitVec 16) (w : ValueForm)
  /-- CHECK (R163). -/
  | check (f : Sender) (object : BitVec 16) (expected mask : Word)
  /-- TABLE_CURSOR_SELECT (R164): table and copy codes packed as R175 gives, and the index. -/
  | tableCursorSelect (f : Sender) (object : CursorObject) (table index : Word)
  /-- LINK_RESTART (R10). -/
  | linkRestart (f : Sender) (phase : Word)
  /-- CLEAR_LINK_COUNTERS (R11). -/
  | clearLinkCounters (f : Sender)
  /-- PHASES_IN_USE_WRITE (R12). -/
  | phasesInUseWrite (f : Sender) (w : WriteForm)
  /-- CONFIGURED_CLASS_WRITE (R8). -/
  | configuredClassWrite (f : Sender) (φ : Phase) (w : WriteForm)
  /-- GAIN_WRITE (R21). -/
  | gainWrite (f : Sender) (φ : Phase) (x : Quantity) (w : WriteForm)
  /-- OFFSET_WRITE (R22). -/
  | offsetWrite (f : Sender) (φ : Phase) (x : Quantity) (w : WriteForm)
  /-- CREEP_THRESHOLD_WRITE (R31). -/
  | creepThresholdWrite (f : Sender) (w : WriteForm)
  /-- BASIS_WRITE (R44). -/
  | basisWrite (f : Sender) (w : WriteForm)
  /-- TOTALS_CLEAR (R52). -/
  | totalsClear (f : Sender)
  /-- TIME_SET (R61). -/
  | timeSet (f : Sender) (day second : Word)
  /-- TIME_ADJUST (R62). -/
  | timeAdjust (f : Sender) (delta : Word)
  /-- INTERVAL_LENGTH_WRITE (R66). -/
  | intervalLengthWrite (f : Sender) (w : WriteForm)
  /-- STAGING_CLAIM_WRITE (R82). -/
  | stagingClaimWrite (f : Sender) (value : Word)
  /-- STAGING_CLAIM_EXCHANGE (R82). -/
  | stagingClaimExchange (f : Sender) (expected new : Word)
  /-- PENDING_TABLE_WRITE (R85). -/
  | pendingTableWrite (f : Sender) (target : PendingTarget) (w : WriteForm)
  /-- ARM (R86). -/
  | arm (f : Sender) (day minute : Word)
  /-- DISARM (R87). -/
  | disarm (f : Sender)
  /-- DISCARD (R88). -/
  | discard (f : Sender)
  /-- FREEZE (R91). -/
  | freeze (f : Sender)
  /-- SCHEDULED_FREEZE_DAY_WRITE (R92). -/
  | scheduledFreezeDayWrite (f : Sender) (w : WriteForm)
  /-- FREEZE_ON_ACTIVATION_WRITE (R94). -/
  | freezeOnActivationWrite (f : Sender) (w : WriteForm)
  /-- LOG_START_OLDEST (R106). -/
  | logStartOldest (f : Sender)
  /-- LOG_START_NEWEST (R106). -/
  | logStartNewest (f : Sender)
  /-- LOG_START_AT (R107). -/
  | logStartAt (f : Sender) (sequence : Word)
  /-- READ_NEXT (R108). -/
  | readNext (f : Sender)
  /-- LOG_STOP (R109). -/
  | logStop (f : Sender)
  /-- LOG_CLEAR (R112). -/
  | logClear (f : Sender)
  /-- SET_TERM (R117). -/
  | setTerm (f : Sender) (limit validity : Word)
  /-- FALLBACK_LIMIT_WRITE (R119). -/
  | fallbackLimitWrite (f : Sender) (w : WriteForm)
  /-- SITE_LIMIT_WRITE (R120). -/
  | siteLimitWrite (f : Sender) (w : WriteForm)
  /-- GRACE_WRITE (R126). -/
  | graceWrite (f : Sender) (w : WriteForm)
  /-- RELEASE_BAND_WRITE (R126). -/
  | releaseBandWrite (f : Sender) (w : WriteForm)
  /-- HOLD_WRITE (R126). -/
  | holdWrite (f : Sender) (w : WriteForm)
  /-- CURTAIL_ACTIVE_LEVEL_WRITE (R127). -/
  | curtailActiveLevelWrite (f : Sender) (w : WriteForm)
  /-- TEST_ON (R137). -/
  | testOn (f : Sender)
  /-- TEST_OFF (R140). -/
  | testOff (f : Sender)
  /-- PULSE_SOURCE_WRITE (R134). -/
  | pulseSourceWrite (f : Sender) (w : WriteForm)
  /-- ACTIVE_WIDTH_WRITE (R136). -/
  | activeWidthWrite (f : Sender) (w : WriteForm)
  /-- GAP_WIDTH_WRITE (R136). -/
  | gapWidthWrite (f : Sender) (w : WriteForm)
  /-- TEST_TIMEOUT_WRITE (R139). -/
  | testTimeoutWrite (f : Sender) (w : WriteForm)
  /-- TEST_DIVISOR_WRITE (R141). -/
  | testDivisorWrite (f : Sender) (w : WriteForm)
  /-- RESTART (R154). -/
  | restart (f : Sender)
  /-- CLEAR_ALL (R155). -/
  | clearAll (f : Sender)
  /-- LATCH_READ (R170): a READ of the latch object with its count. -/
  | latchRead (f : Sender) (count : Byte)
  /-- ENABLE_SET_WRITE (R171). -/
  | enableSetWrite (f : Sender) (w : SetForm)
  /-- RIGHTS_WRITE (R167): the row and the group of the right written. -/
  | rightsWrite (f : Sender) (row : Port) (group : Group) (w : WriteForm)
  /-- FRAME_START (R156). -/
  | frameStart (p : Port)
  /-- FRAME_LENGTH_REJECT (R156): the length byte received. -/
  | frameLengthReject (p : Port) (length : Byte)
  /-- FULL_ANSWER_SENT (R158). -/
  | fullAnswerSent (p : Port)
  /-- VDD_LOSS (R148). -/
  | vddLoss
  deriving DecidableEq, Repr

end Sys2Proof
end

