-- ==== Sys2Proof/Decode.lean ====
section
/-! DEFINITION. The commands that a word of spec/opcode_table.json spells.  No row of the table carries bits: the
part takes events on its lines and request frames at its ports, and the frames are read by
Machine/Operands.lean (`requestOf`) and Machine/Engine.lean (`executeRequest`). -/

namespace Sys2Proof

/-- The command that the bits of a table row spell: none, as no row gives bits (notes/assumptions/7.md). -/
def decodeTableWord (_nbits _w : Nat) : Option Instr := none

end Sys2Proof
end

