-- ==== Sys2Proof/Machine/State.lean ====
section
/-! DEFINITION. The state of the 3N46, block by block, as plain data: what the chapters' state tables name,
the reports on their way from block to block, and the commands that wait.  INVENTORY.md lists every field with
the rule that names it and its reset value. -/

namespace Sys2Proof.Machine

/-! ## Containers -/

/-- One value for each phase. -/
structure PerPhase (α : Type) where
  p1 : α
  p2 : α
  p3 : α
  deriving DecidableEq, Repr

/-- One value for each port. -/
structure PerPort (α : Type) where
  utility : α
  premises : α
  service : α
  deriving DecidableEq, Repr

/-- The value of a phase. -/
def PerPhase.get {α : Type} (v : PerPhase α) : Phase → α
  | .p1 => v.p1
  | .p2 => v.p2
  | .p3 => v.p3

/-- Replace the value of one phase. -/
def PerPhase.set {α : Type} (v : PerPhase α) (φ : Phase) (x : α) : PerPhase α :=
  match φ with
  | .p1 => { v with p1 := x }
  | .p2 => { v with p2 := x }
  | .p3 => { v with p3 := x }

/-- The same value for every phase. -/
def PerPhase.all {α : Type} (x : α) : PerPhase α := ⟨x, x, x⟩

/-- One value per phase, computed from the phase. -/
def PerPhase.of {α : Type} (f : Phase → α) : PerPhase α := ⟨f .p1, f .p2, f .p3⟩

/-- The value of a port. -/
def PerPort.get {α : Type} (v : PerPort α) : Port → α
  | .utility => v.utility
  | .premises => v.premises
  | .service => v.service

/-- Replace the value of one port. -/
def PerPort.set {α : Type} (v : PerPort α) (p : Port) (x : α) : PerPort α :=
  match p with
  | .utility => { v with utility := x }
  | .premises => { v with premises := x }
  | .service => { v with service := x }

/-- The same value for every port. -/
def PerPort.all {α : Type} (x : α) : PerPort α := ⟨x, x, x⟩

/-- One value per port, computed from the port. -/
def PerPort.of {α : Type} (f : Port → α) : PerPort α := ⟨f .utility, f .premises, f .service⟩

/-! ## Times (section 6 of the scope, R56) -/

/-- A meter time: day number and second of day. -/
structure Instant where
  day : Nat
  second : Nat
  deriving DecidableEq, Repr

/-- A time with its clock mark (`marked` is SET), as summaries, dispatches and records carry it (R56). -/
structure Stamp where
  day : Nat
  second : Nat
  marked : Bool
  deriving DecidableEq, Repr

/-- Day 0, second 0, mark UNSET. -/
def Stamp.zero : Stamp := ⟨0, 0, false⟩

/-! ## Chapter 1: sensing links and sample assembly -/

/-- Link states (Table 1-1). -/
inductive LinkState where
  | disabled | down | locked | mismatch
  deriving DecidableEq, Repr

/-- The control slot of a link (Table 1-1). -/
inductive ControlSlot where
  | empty | restart
  deriving DecidableEq, Repr

/-- The state of one link receiver (Table 1-1). -/
structure Link where
  state : LinkState
  configuredClass : Nat
  serial : Word
  reportedClass : Nat
  countdown : Nat
  control : ControlSlot
  missingRun : Nat
  invalidFrames : Nat
  lateFrames : Nat
  deriving DecidableEq, Repr

/-- What a sample frame carries: raw voltage and current codes and the overload mark (R13). -/
structure Sample where
  vr : Int
  ir : Int
  overload : Bool
  deriving DecidableEq, Repr

/-- A phase's place in an open sample set: no slot (the set was opened while the phase was not in use, R12),
an empty slot, or a slot that holds a sample. -/
inductive Slot where
  | absent
  | empty
  | filled (x : Sample)
  deriving DecidableEq, Repr

/-- An open sample set (R1). -/
structure OpenSet where
  number : Byte
  slots : PerPhase Slot
  deriving DecidableEq, Repr

/-- Phase quality (Table 1-1). -/
inductive Quality where
  | good | substituting | lost | disabled
  deriving DecidableEq, Repr

/-- The disposition a closed set gives a phase (R14). -/
inductive Disposition where
  | sample (x : Sample)
  | substituted
  | lost
  | disabled
  deriving DecidableEq, Repr

/-- A closed sample set as handed to the metrology unit (R14). -/
structure ClosedSet where
  number : Byte
  dispositions : PerPhase Disposition
  quality : PerPhase Quality
  deriving DecidableEq, Repr

/-- Phases in use: phase 1 alone, or all three (R12). -/
inductive PhasesInUse where
  | one | three
  deriving DecidableEq, Repr

/-- The link receivers and the sample assembly (Table 1-1).  `strobe` is the number the next strobe carries;
`sent` holds the link frames of the latest strobe issue, as bytes (the model's own record of the lines LKnD). -/
structure Assembly where
  links : PerPhase Link
  phases : PhasesInUse
  strobe : Byte
  openSets : List OpenSet
  quality : PerPhase Quality
  substitutionRun : PerPhase Nat
  sent : PerPhase (List (List Byte))
  deriving DecidableEq, Repr

/-! ## Chapter 2: metrology -/

/-- A phase's calibration set (R20). -/
structure CalibrationSet where
  gainV : Nat
  gainI : Nat
  offsetV : Int
  offsetI : Int
  deriving DecidableEq, Repr

/-- A phase's part of a calibrated set: the power code of a SAMPLE with its clipped mark, or the other
dispositions (R24 to R26). -/
inductive Reading where
  | sample (power : Int) (clipped : Bool)
  | substituted
  | lost
  | disabled
  deriving DecidableEq, Repr

/-- A set calibrated at the moment it reached the unit (R23). -/
structure CalibratedSet where
  readings : PerPhase Reading
  quality : PerPhase Quality
  deriving DecidableEq, Repr

/-- The boundary notice (R60): the number of sets, the ending second's times, and a step notice. -/
structure BoundaryNotice where
  count : Nat
  start : Stamp
  finish : Stamp
  step : Option Instant
  deriving DecidableEq, Repr

/-- The running second of the metrology unit (Table 2-1). -/
structure Running where
  sum : PerPhase Int
  sets : Nat
  clipped : PerPhase Nat
  substituted : PerPhase Nat
  lost : PerPhase Nat
  quality : PerPhase Quality
  deriving DecidableEq, Repr

/-- The live values (Table 2-5). -/
structure Live where
  valid : Bool
  finish : Stamp
  power : PerPhase Int
  sumPower : Int
  creep : PerPhase Bool
  quality : PerPhase Quality
  deriving DecidableEq, Repr

/-- The metrology unit (Table 2-1), with the boundary notices and the sets it holds (R28). -/
structure Metrology where
  calibration : PerPhase CalibrationSet
  creepThreshold : Nat
  running : Running
  mean : PerPhase Int
  live : Live
  notices : List BoundaryNotice
  heldSets : List CalibratedSet
  deriving DecidableEq, Repr

/-- The second summary (Table 2-4). -/
structure Summary where
  start : Stamp
  finish : Stamp
  step : Option Instant
  sets : Nat
  sum : PerPhase Int
  energy : PerPhase Int
  sumEnergy : Int
  clipped : PerPhase Nat
  substituted : PerPhase Nat
  lost : PerPhase Nat
  quality : PerPhase Quality
  deriving DecidableEq, Repr

/-! ## Chapter 3: netting -/

/-- The settlement basis (R43). -/
inductive Basis where
  | phase | vector
  deriving DecidableEq, Repr

/-- The eight totals (R46). -/
structure Totals where
  phaseImport : PerPhase Nat
  phaseExport : PerPhase Nat
  sumImport : Nat
  sumExport : Nat
  deriving DecidableEq, Repr

/-- The dispatch of one second (Table 3-4); `test` is the test flag SET. -/
structure Dispatch where
  start : Stamp
  finish : Stamp
  billImport : Nat
  billExport : Nat
  basis : Basis
  quanta : PerPhase Int
  sumQuanta : Int
  clipped : PerPhase Nat
  substituted : PerPhase Nat
  lost : PerPhase Nat
  test : Bool
  deriving DecidableEq, Repr

/-- The last dispatch as it is read (R53). -/
structure LastDispatch where
  finish : Stamp
  basis : Basis
  billImport : Nat
  billExport : Nat
  quanta : PerPhase Int
  sumQuanta : Int
  test : Bool
  deriving DecidableEq, Repr

/-- The four billing accumulators (R38). -/
structure Accumulators where
  phase : PerPhase Int
  sum : Int
  deriving DecidableEq, Repr

/-- The netting unit (Table 3-1). -/
structure Netting where
  accumulators : Accumulators
  testAccumulator : Int
  basis : Basis
  pendingBasis : Option Basis
  totals : Totals
  held : List Summary
  awaiting : Bool
  last : LastDispatch
  deriving DecidableEq, Repr

/-- The two values of a dispatch acknowledgment (R42). -/
inductive Acknowledgment where
  | taken | opened
  deriving DecidableEq, Repr

/-! ## Chapter 4: meter time and intervals -/

/-- The time base (Table 4-1); `set` is the clock state SET. -/
structure TimeBase where
  start : Instant
  set : Bool
  length : Nat
  counted : Nat
  slew : Int
  step : Option Instant
  deriving DecidableEq, Repr

/-- The flags of an interval (Table 4-5). -/
structure IntervalFlags where
  short : Bool
  timeChanged : Bool
  powerLost : Bool
  checkpoint : Bool
  clockUnset : Bool
  test : Bool
  substituted : Bool
  lost : Bool
  deriving DecidableEq, Repr

/-- The open tally (Table 4-5). -/
structure Tally where
  start : Stamp
  length : Nat
  basis : Option Basis
  importWh : Nat
  exportWh : Nat
  net : PerPhase Int
  substituted : PerPhase Nat
  lost : PerPhase Nat
  clipped : PerPhase Nat
  peakExport : Nat
  overSeconds : Nat
  curtailSeconds : Nat
  flags : IntervalFlags
  seconds : Nat
  deriving DecidableEq, Repr

/-- The interval record built at a closing (R71). -/
structure IntervalRecord where
  start : Stamp
  finish : Stamp
  length : Nat
  basis : Option Basis
  importWh : Nat
  exportWh : Nat
  net : PerPhase Int
  substituted : PerPhase Nat
  lost : PerPhase Nat
  clipped : PerPhase Nat
  peakExport : Nat
  overSeconds : Nat
  curtailSeconds : Nat
  flags : IntervalFlags
  deriving DecidableEq, Repr

/-- The envelope status of one second (R128). -/
structure EnvelopeStatus where
  start : Stamp
  finish : Stamp
  exported : Nat
  overLimit : Bool
  curtail : Bool
  deriving DecidableEq, Repr

/-- The interval unit (Table 4-1). -/
structure IntervalUnit where
  length : Nat
  pendingLength : Option Nat
  tally : Tally
  summaries : List Summary
  statuses : List EnvelopeStatus
  dispatch : Option Dispatch
  deriving DecidableEq, Repr

/-! ## Chapter 5: tariff registers, schedules and billing freeze -/

/-- A special-day list entry: day number and day type (Table 5-2). -/
structure SpecialDay where
  day : Nat
  dayType : Nat
  deriving DecidableEq, Repr

/-- A switch list entry: minute of day and band (Table 5-2). -/
structure Switch where
  minute : Nat
  band : Nat
  deriving DecidableEq, Repr

/-- A schedule record (Table 5-2). -/
structure Schedule where
  revision : Nat
  week : Vector Nat 7
  special : List SpecialDay
  switches : Vector (List Switch) 4
  deriving DecidableEq, Repr

/-- The cold schedule (R80). -/
def Schedule.cold : Schedule :=
  { revision := 0, week := #v[0, 0, 0, 0, 0, 0, 0], special := [], switches := #v[[], [], [], []] }

/-- The pending schedule's states (R81). -/
inductive PendingState where
  | empty | editing | armed
  deriving DecidableEq, Repr

/-- An activation time (R86). -/
structure Activation where
  day : Nat
  minute : Nat
  deriving DecidableEq, Repr

/-- The twelve tariff registers (R76); place b−1 belongs to band b. -/
structure Registers where
  imported : Vector Nat 6
  exported : Vector Nat 6
  deriving DecidableEq, Repr

/-- Causes of a freeze (Table 5-5). -/
inductive FreezeCause where
  | command | scheduled | activation
  deriving DecidableEq, Repr

/-- A freeze record (Table 5-5). -/
structure FreezeRecord where
  number : Nat
  time : Stamp
  cause : FreezeCause
  scheduledDay : Option Nat
  registers : Registers
  sumImport : Nat
  sumExport : Nat
  deriving DecidableEq, Repr

/-- The last filing: band and day type (R76). -/
structure Filing where
  band : Nat
  dayType : Nat
  deriving DecidableEq, Repr

/-- The tariff unit (Table 5-1). -/
structure Tariff where
  registers : Registers
  active : Schedule
  pending : Schedule
  pendingState : PendingState
  activation : Option Activation
  claim : Option Port
  freezes : List FreezeRecord
  nextFreeze : Nat
  pendingFreeze : Option Nat
  freezeDay : Nat
  freezeReference : Option Nat
  freezeOnActivation : Bool
  lastFiling : Option Filing
  deriving DecidableEq, Repr

/-! ## Chapter 6: interval log -/

/-- A held record: its sequence number and the interval record (R98). -/
structure LogRecord where
  sequence : Nat
  body : IntervalRecord
  deriving DecidableEq, Repr

/-- What a commit makes durable: the held records and N (R101). -/
structure LogImage where
  records : List LogRecord
  next : Nat
  deriving DecidableEq, Repr

/-- An entry of the commit queue (R101): the intake of a sequence number, or a clear, each with the state of
the log at its end. -/
inductive CommitEntry where
  | intake (sequence : Nat) (image : LogImage)
  | clear (image : LogImage)
  deriving DecidableEq, Repr

/-- A read context (R105). -/
structure Context where
  reading : Bool
  next : Nat
  gap : Nat
  deriving DecidableEq, Repr

/-- An IDLE context (R105). -/
def Context.idle : Context := ⟨false, 0, 0⟩

/-- The interval log (Table 6-1): held records oldest first; `committed` is the state of the last completed
commit in the nonvolatile slot store.  Slots used and the log state are computed (`slotsUsed`, `Log.ready`). -/
structure Log where
  records : List LogRecord
  next : Nat
  queue : List CommitEntry
  contexts : PerPort Context
  committed : LogImage
  deriving DecidableEq, Repr

/-! ## Chapter 7: export envelope -/

/-- An export limit: a number of watts or UNLIMITED (Table 7-1). -/
inductive Limit where
  | watts (w : Nat)
  | unlimited
  deriving DecidableEq, Repr

/-- Monitor states (Table 7-1). -/
inductive MonitorState where
  | clear | overLimit | curtailing | holding
  deriving DecidableEq, Repr

/-- Causes of a curtail (Table 7-1). -/
inductive CurtailCause where
  | none | limit | sensing
  deriving DecidableEq, Repr

/-- The monitor's state, cause and counts, which move together (R122 to R125). -/
structure Monitor where
  state : MonitorState
  cause : CurtailCause
  overCount : Nat
  holdCount : Nat
  deriving DecidableEq, Repr

/-- The utility term (R117): `inForce` is IN_FORCE, otherwise LAPSED. -/
structure Term where
  inForce : Bool
  limit : Limit
  validity : Nat
  deriving DecidableEq, Repr

/-- The last evaluation (R115, stage 7). -/
structure Evaluation where
  exported : Nat
  finish : Stamp
  evaluated : Bool
  deriving DecidableEq, Repr

/-- The export envelope monitor (Table 7-1); `line` is the curtail line active, `activeHigh` the curtail
active level HIGH. -/
structure Envelope where
  term : Term
  fallback : Limit
  site : Limit
  grace : Nat
  band : Nat
  hold : Nat
  activeHigh : Bool
  monitor : Monitor
  line : Bool
  last : Evaluation
  deriving DecidableEq, Repr

/-! ## Chapter 8: pulse output and test mode -/

/-- The pulse source (R134). -/
inductive PulseSource where
  | imported | exported | absolute
  deriving DecidableEq, Repr

/-- The generator's states (R135). -/
inductive Generator where
  | idle | active | gap
  deriving DecidableEq, Repr

/-- Causes of the last exit from TEST (R140). -/
inductive ExitCause where
  | none | command | switch | timer
  deriving DecidableEq, Repr

/-- The pulse hand-off of one second (R51). -/
structure HandOff where
  importCount : Nat
  exportCount : Nat
  test : Bool
  divisor : Nat
  deriving DecidableEq, Repr

/-- The pulse and test unit (Table 8-1); `test` is the test mode TEST.  `period` is the length of the period
the generator is in, set when the period begins (notes/assumptions/8.md). -/
structure Pulse where
  source : PulseSource
  activeWidth : Nat
  gapWidth : Nat
  pendingCount : Nat
  dropped : Nat
  generator : Generator
  period : Nat
  test : Bool
  divisor : Nat
  timeout : Nat
  timer : Nat
  testImport : Nat
  testExport : Nat
  lastExit : ExitCause
  deriving DecidableEq, Repr

/-! ## Chapter 9: the nonvolatile store -/

/-- Store states (R144), and `unpowered`: VDD is absent, so the part has no store state at all
(notes/assumptions/9.md). -/
inductive StoreState where
  | running | saving | dormant | restoring | unpowered
  deriving DecidableEq, Repr

/-- Save causes (Table 9-1). -/
inductive SaveCause where
  | supply | restart | clearAll
  deriving DecidableEq, Repr

/-- Restore kinds (R152). -/
inductive RestoreKind where
  | cold | warm | checkpoint
  deriving DecidableEq, Repr

/-- The save image (Table 9-2). -/
structure SaveImage where
  accumulators : Accumulators
  totals : Totals
  registers : Registers
  nextFreeze : Nat
  pendingFreeze : Option Nat
  freezeReference : Option Nat
  start : Instant
  clockSet : Bool
  slew : Int
  step : Option Instant
  tally : Tally
  term : Term
  deriving DecidableEq, Repr

/-- The checkpoint's contents (Table 9-3). -/
structure CheckpointContents where
  registers : Registers
  nextFreeze : Nat
  freezeReference : Option Nat
  totals : Totals
  logNext : Nat
  deriving DecidableEq, Repr

/-- A checkpoint copy whose check is correct (R150). -/
structure CheckpointCopy where
  contents : CheckpointContents
  generation : Nat
  deriving DecidableEq, Repr

/-- The names of the two copies. -/
inductive CopyName where
  | x | y
  deriving DecidableEq, Repr

/-- A checkpoint copy write in progress (R150): the copy written and what it will hold. -/
structure CheckpointWrite where
  target : CopyName
  copy : CheckpointCopy
  deriving DecidableEq, Repr

/-- The backup clock (R149). -/
structure BackupClock where
  time : Instant
  set : Bool
  valid : Bool
  deriving DecidableEq, Repr

/-- How far a save has gone (R146, R155): not begun, the image being written, or a CLEAR ALL's copies set
invalid. -/
inductive SaveWrite where
  | idle
  | image (i : SaveImage)
  | clearing
  deriving DecidableEq, Repr

/-- The ten blocks that take a restore notice (R153, Table 0-1). -/
inductive Block where
  | assembly | metrology | netting | timeBase | interval | tariff | log | envelope | pulse | engine
  deriving DecidableEq, Repr

/-- The restore notice (R153). -/
structure RestoreNotice where
  kind : RestoreKind
  cause : SaveCause
  image : Option SaveImage
  checkpoint : Option CheckpointContents
  reading : BackupClock
  deriving DecidableEq, Repr

/-- The nonvolatile store (Table 9-1).  `image` is absent when it does not read back whole; a copy is absent
when its check is wrong; `found` is the copy that held the valid checkpoint at the last restore (R150);
`notice` and `waiting` are the restore in progress and the blocks that have not taken its notice. -/
structure Store where
  state : StoreState
  cause : SaveCause
  write : SaveWrite
  image : Option SaveImage
  mark : Bool
  copyX : Option CheckpointCopy
  copyY : Option CheckpointCopy
  lastCopy : Option CopyName
  found : Option CopyName
  copyWrite : Option CheckpointWrite
  pendingCopy : Option CheckpointContents
  backup : BackupClock
  notice : RestoreNotice
  waiting : List Block
  lastKind : RestoreKind
  lastCause : SaveCause
  outage : Option Nat
  supok : Bool
  deriving DecidableEq, Repr

/-! ## Chapter 10: request engine -/

/-- Rights (R166). -/
inductive Right where
  | none | read | write
  deriving DecidableEq, Repr

/-- Front end states (R156). -/
inductive FrontEnd where
  | hunt | receiving
  deriving DecidableEq, Repr

/-- A request as the front end passes it on (Table 10-2): the kind byte is examined at execution (R160). -/
structure Request where
  tag : Byte
  kind : Byte
  object : BitVec 16
  count : Option Byte
  operands : List Word
  deriving DecidableEq, Repr

/-- Outcomes (Table 10-4). -/
inductive ReplyCode where
  | done | matched | mismatch | empty | full | denied | noObject | badRequest | range | claimed | busy | clockUnset
  deriving DecidableEq, Repr

/-- What an answer carries: values, an interval record with the gap count, or a freeze record. -/
inductive Result where
  | values (ws : List Word)
  | interval (gap : Nat) (record : LogRecord)
  | freeze (record : FreezeRecord)
  deriving DecidableEq, Repr

/-- An outcome with its result (Table 10-2). -/
structure Reply where
  code : ReplyCode
  result : Result
  deriving DecidableEq, Repr

/-- An answer formed and not yet sent (R158): the FULL answer of a request turned away, or the answer of an
executed request. -/
inductive Answer where
  | full (tag : Byte)
  | executed (tag : Byte) (reply : Reply)
  deriving DecidableEq, Repr

/-- The engine's state (Table 10-1). -/
inductive EngineState where
  | idle
  | sending (p : Port)
  deriving DecidableEq, Repr

/-- The copies of a schedule record (R80). -/
inductive ScheduleCopy where
  | active | pending
  deriving DecidableEq, Repr

/-- A port's table cursor (R164): no table, or a table with its copy and index. -/
inductive Cursor where
  | unset
  | week (copy : ScheduleCopy) (index : Nat)
  | special (copy : ScheduleCopy) (index : Nat)
  | switch (dayType : Fin 4) (copy : ScheduleCopy) (index : Nat)
  | freeze (index : Nat)
  deriving DecidableEq, Repr

/-- A set of event kinds; position p of Table 11-3 is bit p. -/
abbrev EventSet := BitVec 15

/-- The rights map rows of the premises and service ports, groups in the order of Table 0-6 (R166). -/
structure RightsMap where
  premises : Vector Right 16
  service : Vector Right 16
  deriving DecidableEq, Repr

/-- The defaults of Table 10-5. -/
def RightsMap.cold : RightsMap :=
  { premises := #v[.read, .read, .none, .none, .none, .read, .none, .none, .read, .write, .read, .read, .none,
      .write, .none, .none]
    service := #v[.read, .read, .write, .write, .read, .read, .write, .write, .read, .read, .read, .read, .write,
      .read, .read, .write] }

/-- The request engine (Table 10-1).  `outbox` holds each port's answers formed and not yet sent, in the order
of their forming, the one being sent at the head; `txd` the bytes of the last answer a port sent whole;
`calen` the level of the CALEN pin (closed), `enable` the enable state the engine has taken (CLOSED). -/
structure Engine where
  frontEnds : PerPort FrontEnd
  queues : PerPort (List Request)
  state : EngineState
  pointer : Port
  cursors : PerPort Cursor
  rights : RightsMap
  calen : Bool
  enable : Bool
  latches : PerPort EventSet
  enables : PerPort EventSet
  lines : PerPort Bool
  outbox : PerPort (List Answer)
  txd : PerPort (List Byte)
  deriving DecidableEq, Repr

/-! ## Between the blocks -/

/-- The reports on their way from block to block, each list in the order of sending (notes/assumptions/1.md):
R14 and R60 to the metrology unit, R33 to three blocks, R50 to two, R128, R42, R51, R70 and R102. -/
structure Wires where
  sets : List ClosedSet
  notices : List BoundaryNotice
  toNetting : List Summary
  toEnvelope : List Summary
  toInterval : List Summary
  toTariff : List Dispatch
  dispatches : List Dispatch
  statuses : List EnvelopeStatus
  acknowledgments : List Acknowledgment
  handOffs : List HandOff
  records : List IntervalRecord
  checkpointNotices : Nat
  deriving DecidableEq, Repr

/-- The meter identity, a value object that its partners write (Table 11-1). -/
structure Identity where
  upper : Word
  lower : Word
  deriving DecidableEq, Repr

/-- The whole part.  `freeCount` counts the free values drawn so far (notes/assumptions/3.md), and `pending`
holds the commands that wait, the next one first. -/
structure State where
  identity : Identity
  assembly : Assembly
  metrology : Metrology
  netting : Netting
  timeBase : TimeBase
  interval : IntervalUnit
  tariff : Tariff
  log : Log
  envelope : Envelope
  pulse : Pulse
  store : Store
  engine : Engine
  wires : Wires
  freeCount : Nat
  pending : List Instr
  deriving DecidableEq, Repr

/-! ## Stops -/

/-- Faults.  There is none: the manual describes no event that stops the part, and every command has an effect
in every state (NOTES.md, Stops).  Safe: nothing is cut short. -/
inductive Fault where
  deriving DecidableEq, Repr

/-- Refusals. -/
inductive Refusal where
  /-- Raised by an arm of `exec` whose command has no meaning yet.  Safe: the run stops there.  No arm uses it. -/
  | notModelled (mnemonic : String)
  deriving DecidableEq, Repr

/-! ## Reset -/

/-- A link after a COLD restore with its phase in use (Table 1-5). -/
def Link.cold : Link :=
  { state := .down, configuredClass := 2, serial := 0, reportedClass := 0, countdown := 0, control := .empty,
    missingRun := 0, invalidFrames := 0, lateFrames := 0 }

/-- Table 1-5, column COLD. -/
def Assembly.cold : Assembly :=
  { links := .all .cold, phases := .three, strobe := 0, openSets := [], quality := .all .lost,
    substitutionRun := .all 0, sent := .all [] }

/-- A calibration set after a COLD restore (R20). -/
def CalibrationSet.cold : CalibrationSet := ⟨32768, 32768, 0, 0⟩

/-- A running second that holds no set. -/
def Running.empty : Running :=
  { sum := .all 0, sets := 0, clipped := .all 0, substituted := .all 0, lost := .all 0, quality := .all .lost }

/-- Table 2-6, column COLD. -/
def Metrology.cold : Metrology :=
  { calibration := .all .cold, creepThreshold := 50, running := .empty, mean := .all 0,
    live := { valid := false, finish := .zero, power := .all 0, sumPower := 0, creep := .all false,
              quality := .all .lost },
    notices := [], heldSets := [] }

/-- Accumulators at 0. -/
def Accumulators.zero : Accumulators := ⟨.all 0, 0⟩

/-- Totals at 0. -/
def Totals.zero : Totals := ⟨.all 0, .all 0, 0, 0⟩

/-- The last dispatch before any second has been taken (R53). -/
def LastDispatch.zero (basis : Basis) : LastDispatch :=
  { finish := .zero, basis := basis, billImport := 0, billExport := 0, quanta := .all 0, sumQuanta := 0,
    test := false }

/-- Table 3-5, column COLD. -/
def Netting.cold : Netting :=
  { accumulators := .zero, testAccumulator := 0, basis := .vector, pendingBasis := none, totals := .zero,
    held := [], awaiting := false, last := .zero .vector }

/-- Table 4-7, column COLD. -/
def TimeBase.cold : TimeBase :=
  { start := ⟨0, 0⟩, set := false, length := 4000, counted := 0, slew := 0, step := none }

/-- No flag set. -/
def IntervalFlags.none : IntervalFlags := ⟨false, false, false, false, false, false, false, false⟩

/-- A tally that has taken no second (R67). -/
def Tally.opened (start : Stamp) (length : Nat) (flags : IntervalFlags) : Tally :=
  { start := start, length := length, basis := Option.none, importWh := 0, exportWh := 0, net := .all 0,
    substituted := .all 0, lost := .all 0, clipped := .all 0, peakExport := 0, overSeconds := 0,
    curtailSeconds := 0, flags := flags, seconds := 0 }

/-- Table 4-8, column COLD. -/
def IntervalUnit.cold : IntervalUnit :=
  { length := 15, pendingLength := none,
    tally := .opened .zero 15 { IntervalFlags.none with powerLost := true },
    summaries := [], statuses := [], dispatch := none }

/-- Registers at 0. -/
def Registers.zero : Registers := ⟨#v[0, 0, 0, 0, 0, 0], #v[0, 0, 0, 0, 0, 0]⟩

/-- Table 5-6, column COLD. -/
def Tariff.cold : Tariff :=
  { registers := .zero, active := .cold, pending := .cold, pendingState := .empty, activation := none,
    claim := none, freezes := [], nextFreeze := 1, pendingFreeze := none, freezeDay := 0,
    freezeReference := none, freezeOnActivation := false, lastFiling := none }

/-- The slot store of a log that has been emptied by a COLD restore (R99, R152). -/
def LogImage.cold : LogImage := ⟨[], 1⟩

/-- Table 6-4, column COLD. -/
def Log.cold : Log :=
  { records := [], next := 1, queue := [], contexts := .all .idle, committed := .cold }

/-- CLEAR with cause NONE and both counts 0 (R122). -/
def Monitor.clear : Monitor := ⟨.clear, .none, 0, 0⟩

/-- The cold term (Table 7-1). -/
def Term.cold : Term := ⟨false, .watts 0, 0⟩

/-- Table 7-3, column COLD. -/
def Envelope.cold : Envelope :=
  { term := .cold, fallback := .watts 5000, site := .unlimited, grace := 5, band := 200, hold := 30,
    activeHigh := true, monitor := .clear, line := false, last := ⟨0, .zero, false⟩ }

/-- Table 8-3, column COLD. -/
def Pulse.cold : Pulse :=
  { source := .absolute, activeWidth := 40, gapWidth := 40, pendingCount := 0, dropped := 0, generator := .idle,
    period := 0, test := false, divisor := 100, timeout := 30, timer := 0, testImport := 0, testExport := 0,
    lastExit := .none }

/-- The store after the COLD restore of a first power-up (R150 to R153): no mark, no image, no copy, the backup
clock loaded with day 0, second 0, UNSET. -/
def Store.cold : Store :=
  { state := .running, cause := .supply, write := .idle, image := none, mark := false, copyX := none,
    copyY := none, lastCopy := none, found := none, copyWrite := none, pendingCopy := none,
    backup := ⟨⟨0, 0⟩, false, true⟩,
    notice := { kind := .cold, cause := .supply, image := none, checkpoint := none,
                reading := ⟨⟨0, 0⟩, false, false⟩ },
    waiting := [], lastKind := .cold, lastCause := .supply, outage := none, supok := true }

/-- Table 10-6, column COLD: RESTORED stands latched at every port (position 13 of Table 11-3); CALEN is OPEN. -/
def Engine.cold : Engine :=
  { frontEnds := .all .hunt, queues := .all [], state := .idle, pointer := .service, cursors := .all .unset,
    rights := .cold, calen := false, enable := false, latches := .all 8192#15, enables := .all 0#15,
    lines := .all false, outbox := .all [], txd := .all [] }

/-- Nothing on its way. -/
def Wires.empty : Wires :=
  { sets := [], notices := [], toNetting := [], toEnvelope := [], toInterval := [], toTariff := [],
    dispatches := [], statuses := [], acknowledgments := [], handOffs := [], records := [],
    checkpointNotices := 0 }

/-- The machine after reset: the part after the COLD restore of its first power-up, back in RUNNING with SUPOK
high (notes/assumptions/6.md). -/
def State.reset : State :=
  { identity := ⟨0, 0⟩, assembly := .cold, metrology := .cold, netting := .cold, timeBase := .cold,
    interval := .cold, tariff := .cold, log := .cold, envelope := .cold, pulse := .cold, store := .cold,
    engine := .cold, wires := .empty, freeCount := 0, pending := [] }

end Sys2Proof.Machine
end

