-- ==== Sys2Proof/Machine/Flags.lean ====
section
/-! DEFINITION. The flags of the part: the event latches, the enable sets and the attention lines of the three
ports (R169 to R172), and the sets of Table 11-3. -/

namespace Sys2Proof.Machine

/-- The fifteen event kinds (Table 0-5). -/
inductive EventKind where
  | intervalClosed | freezeTaken | scheduleActivated | claimLost | contextGap | timeStepped | linkChange
  | phaseLost | phaseRestored | curtailOn | curtailOff | limitLapsed | testModeChange | restored | calSwitch
  deriving DecidableEq, Repr

/-- The position of an event kind in the latch and enable values (Table 11-3). -/
def eventPosition : EventKind → Nat
  | .intervalClosed => 0
  | .freezeTaken => 1
  | .scheduleActivated => 2
  | .claimLost => 3
  | .contextGap => 4
  | .timeStepped => 5
  | .linkChange => 6
  | .phaseLost => 7
  | .phaseRestored => 8
  | .curtailOn => 9
  | .curtailOff => 10
  | .limitLapsed => 11
  | .testModeChange => 12
  | .restored => 13
  | .calSwitch => 14

/-- The set that holds one event kind. -/
def eventSet (k : EventKind) : EventSet := BitVec.ofNat 15 (2 ^ eventPosition k)

/-- An event set as a 32-bit value: positions without a member read 0 (Table 11-3). -/
def eventWord (x : EventSet) : Word := x.setWidth 32

/-- The set a 32-bit operand names, or nothing when it names a position without a member (R163, R171). -/
def eventsNamed (w : Word) : Option EventSet :=
  if w.toNat < 2 ^ 15 then some (w.setWidth 15) else none

/-- Whether events are latched: in RUNNING, SAVING and RESTORING (R148, R169). -/
def latching : StoreState → Bool
  | .running | .saving | .restoring => true
  | .dormant | .unpowered => false

/-- The attention line of a port by its latch set and enable set (R172); no line is active in DORMANT, and none
without VDD (R148). -/
def attention (st : StoreState) (latch enable : EventSet) : Bool :=
  latching st && (latch &&& enable != 0#15)

/-- Set all three attention lines anew (R172). -/
def setLines (s : State) : State :=
  { s with engine := { s.engine with
      lines := .of fun p => attention s.store.state (s.engine.latches.get p) (s.engine.enables.get p) } }

/-- Raise an event for one port (R169: CLAIM_LOST and CONTEXT_GAP). -/
def raiseFor (k : EventKind) (p : Port) (s : State) : State :=
  if latching s.store.state then
    setLines { s with engine := { s.engine with
      latches := s.engine.latches.set p (s.engine.latches.get p ||| eventSet k) } }
  else s

/-- Raise an event for all three ports (R169). -/
def raise (k : EventKind) (s : State) : State :=
  if latching s.store.state then
    setLines { s with engine := { s.engine with
      latches := .of fun p => s.engine.latches.get p ||| eventSet k } }
  else s

/-- Raise an event for all ports when a condition holds. -/
def raiseIf (c : Bool) (k : EventKind) (s : State) : State :=
  if c then raise k s else s

/-- The value of a flag. -/
def flagWord (b : Bool) : Word := if b then 1#32 else 0#32

/-- The weight of position p in a set value, when the member is in the set (Table 11-3). -/
def weight (b : Bool) (p : Nat) : Nat := if b then 2 ^ p else 0

/-- The interval flags as a set value (Table 11-3). -/
def intervalFlagsValue (f : IntervalFlags) : Nat :=
  weight f.short 0 + weight f.timeChanged 1 + weight f.powerLost 2 + weight f.checkpoint 3 +
    weight f.clockUnset 4 + weight f.test 5 + weight f.substituted 6 + weight f.lost 7

/-- A phase set as a set value (Table 11-3). -/
def phaseSetValue (x : PerPhase Bool) : Nat :=
  weight x.p1 0 + weight x.p2 1 + weight x.p3 2

end Sys2Proof.Machine
end

