-- ==== Sys2Proof/Machine/Operands.lean ====
section
/-! DEFINITION. How operands, frames and packed values are read and formed: clamps and limits of the settings,
the request body and the answer body (R175), the link frames (R176), and the rounding of section 6. -/

namespace Sys2Proof.Machine

/-! ## Arithmetic of section 6 of the scope -/

/-- The magnitude a/b rounded to the nearest integer, halves up. -/
def roundedMagnitude (a b : Nat) : Nat := (2 * a + b) / (2 * b)

/-- a/b rounded half away from zero (section 6, Rounding). -/
def roundHalfAway (a : Int) (b : Nat) : Int :=
  if a < 0 then -(roundedMagnitude a.natAbs b : Int) else (roundedMagnitude a.natAbs b : Int)

/-- Clamp to a range. -/
def clampInt (low high x : Int) : Int := if x < low then low else if high < x then high else x

/-- Count modulo 1,000,000,000 (section 6, Rollover). -/
def addWh (total gain : Nat) : Nat := (total + gain) % 1000000000

/-- Add to a saturating counter. -/
def addSaturating (limit count gain : Nat) : Nat := min limit (count + gain)

/-- A number as an object value; a signed one in two's complement (R174, Values). -/
def natWord (n : Nat) : Word := BitVec.ofNat 32 n

/-- A signed number as an object value (R174, Values). -/
def intWord (x : Int) : Word := BitVec.ofInt 32 x

/-- UNLIMITED, and the code of an absent value where Table 11-1 gives 4,294,967,295. -/
def allOnes : Word := 4294967295#32

/-! ## Operands of settings -/

/-- A signed 32-bit operand clamped to a range of magnitudes (R126, R136, R139). -/
def clampNat (low high : Nat) (w : Word) : Nat := (clampInt low high w.toInt).toNat

/-- A limit operand: 4,294,967,295 names UNLIMITED, a value above 100,000 is stored as 100,000 (R117). -/
def limitOperand (w : Word) : Limit :=
  if w = allOnes then .unlimited else .watts (min w.toNat 100000)

/-- A limit as an object value (R174). -/
def limitWord : Limit → Word
  | .watts n => natWord n
  | .unlimited => allOnes

/-! ## Enumerations and their codes (Table 11-1) -/

/-- PHASE 1, VECTOR 2. -/
def basisCode : Basis → Nat
  | .phase => 1
  | .vector => 2

/-- The basis an operand names (R44). -/
def basisNamed (w : Word) : Option Basis :=
  if w = 1#32 then some .phase else if w = 2#32 then some .vector else none

/-- UTILITY 1, PREMISES 2, SERVICE 3. -/
def portCode : Port → Nat
  | .utility => 1
  | .premises => 2
  | .service => 3

/-- NONE 0, or the port's code. -/
def claimCode : Option Port → Nat
  | none => 0
  | some p => portCode p

/-- The claim value an operand names, when it is one that the port may write: NONE or its own name (R82). -/
def claimNamed (p : Port) (w : Word) : Option (Option Port) :=
  if w = 0#32 then some none else if w = natWord (portCode p) then some (some p) else none

/-- OFF or LOW 0, ON or HIGH 1 (R94, R127). -/
def switchNamed (w : Word) : Option Bool :=
  if w = 0#32 then some false else if w = 1#32 then some true else none

/-- IMPORT 0, EXPORT 1, ABSOLUTE 2 (R134). -/
def pulseSourceNamed (w : Word) : Option PulseSource :=
  if w = 0#32 then some .imported else if w = 1#32 then some .exported
  else if w = 2#32 then some .absolute else none

/-- IMPORT 0, EXPORT 1, ABSOLUTE 2 (R134). -/
def pulseSourceCode : PulseSource → Nat
  | .imported => 0
  | .exported => 1
  | .absolute => 2

/-- NONE 0, READ 1, WRITE 2 (R167). -/
def rightNamed (w : Word) : Option Right :=
  if w = 0#32 then some .none else if w = 1#32 then some .read else if w = 2#32 then some .write else none

/-- NONE 0, READ 1, WRITE 2. -/
def rightCode : Right → Nat
  | .none => 0
  | .read => 1
  | .write => 2

/-- The interval lengths allowed (R66). -/
def intervalLengthNamed (w : Word) : Option Nat :=
  if w.toNat ∈ [5, 10, 15, 30, 60] then some w.toNat else none

/-- The test divisors allowed (R141). -/
def divisorNamed (w : Word) : Option Nat :=
  if w.toNat ∈ [1, 10, 100, 1000] then some w.toNat else none

/-- The phases-in-use setting (R12). -/
def phasesNamed (w : Word) : Option PhasesInUse :=
  if w = 1#32 then some .one else if w = 3#32 then some .three else none

/-- 1 or 3 (R12). -/
def phasesCode : PhasesInUse → Nat
  | .one => 1
  | .three => 3

/-- The phase a LINK RESTART names (R10). -/
def phaseNamed (w : Word) : Option Phase :=
  if w = 1#32 then some .p1 else if w = 2#32 then some .p2 else if w = 3#32 then some .p3 else none

/-- The codes of link states (Table 11-1). -/
def linkStateCode : LinkState → Nat
  | .disabled => 0
  | .down => 1
  | .locked => 2
  | .mismatch => 3

/-- The codes of phase qualities (Table 11-1). -/
def qualityCode : Quality → Nat
  | .good => 0
  | .substituting => 1
  | .lost => 2
  | .disabled => 3

/-- The codes of pending states (Table 11-1). -/
def pendingStateCode : PendingState → Nat
  | .empty => 0
  | .editing => 1
  | .armed => 2

/-- The codes of monitor states (Table 11-1). -/
def monitorStateCode : MonitorState → Nat
  | .clear => 0
  | .overLimit => 1
  | .curtailing => 2
  | .holding => 3

/-- The codes of curtail causes (Table 11-1). -/
def curtailCauseCode : CurtailCause → Nat
  | .none => 0
  | .limit => 1
  | .sensing => 2

/-- The codes of generator states (Table 11-1). -/
def generatorCode : Generator → Nat
  | .idle => 0
  | .active => 1
  | .gap => 2

/-- The codes of exit causes (Table 11-1). -/
def exitCauseCode : ExitCause → Nat
  | .none => 0
  | .command => 1
  | .switch => 2
  | .timer => 3

/-- The codes of restore kinds (Table 11-1). -/
def restoreKindCode : RestoreKind → Nat
  | .cold => 0
  | .warm => 1
  | .checkpoint => 2

/-- The codes of restore causes (Table 11-1). -/
def saveCauseCode : SaveCause → Nat
  | .supply => 0
  | .restart => 1
  | .clearAll => 2

/-- The codes of freeze causes (Table 11-6). -/
def freezeCauseCode : FreezeCause → Nat
  | .command => 1
  | .scheduled => 2
  | .activation => 3

/-- The codes of outcomes (Table 11-4). -/
def replyCode : ReplyCode → Nat
  | .done => 0
  | .matched => 1
  | .mismatch => 2
  | .empty => 3
  | .full => 4
  | .denied => 5
  | .noObject => 6
  | .badRequest => 7
  | .range => 8
  | .claimed => 9
  | .busy => 10
  | .clockUnset => 11

/-! ## Bytes -/

/-- A number as bytes, high byte first (R175). -/
def bytesOf : Nat → Nat → List Byte
  | 0, _ => []
  | k + 1, n => bytesOf k (n / 256) ++ [BitVec.ofNat 8 n]

/-- The number that bytes spell, high byte first (R175). -/
def numberOf (bs : List Byte) : Nat := bs.foldl (fun n b => 256 * n + b.toNat) 0

/-- The sum of bytes. -/
def byteSum (bs : List Byte) : Nat := (bs.map BitVec.toNat).sum

/-! ## Request frames (R175, Table 11-4) -/

/-- The body lengths a request frame can have (R175). -/
def bodyLengths : List Nat := [4, 5, 8, 12]

/-- The start byte of a port frame (R175). -/
def startByte : Byte := 165#8

/-- The frame check of a port frame: length byte and body bytes, modulo 65,536 (R175). -/
def frameCheck (body : List Byte) : BitVec 16 := BitVec.ofNat 16 (body.length + byteSum body)

/-- A whole port frame (R175). -/
def portFrame (body : List Byte) : List Byte :=
  startByte :: BitVec.ofNat 8 body.length :: body ++ bytesOf 2 (frameCheck body).toNat

/-- The request that a body of an allowed length spells (Table 11-4). -/
def requestOf (body : List Byte) : Request :=
  { tag := body.getD 0 0
    kind := body.getD 1 0
    object := BitVec.ofNat 16 (numberOf ((body.drop 2).take 2))
    count := if body.length = 5 then some (body.getD 4 0) else none
    operands :=
      if body.length = 8 then [natWord (numberOf ((body.drop 4).take 4))]
      else if body.length = 12 then
        [natWord (numberOf ((body.drop 4).take 4)), natWord (numberOf ((body.drop 8).take 4))]
      else [] }

/-- The body that spells a request (Table 11-4). -/
def bodyOf (r : Request) : List Byte :=
  [r.tag, r.kind] ++ bytesOf 2 r.object.toNat ++
    (match r.count with
     | some c => [c]
     | none => r.operands.flatMap fun w => bytesOf 4 w.toNat)

/-- The request kinds (Table 11-4). -/
inductive Kind where
  | read | write | modify | check | exchange | select | command
  deriving DecidableEq, Repr

/-- The kind a kind byte names (R175). -/
def kindNamed (b : Byte) : Option Kind :=
  if b = 1#8 then some .read else if b = 2#8 then some .write else if b = 3#8 then some .modify
  else if b = 4#8 then some .check else if b = 5#8 then some .exchange else if b = 6#8 then some .select
  else if b = 7#8 then some .command else none

/-- The code of a request kind (Table 11-4). -/
def kindCode : Kind → Byte
  | .read => 1#8
  | .write => 2#8
  | .modify => 3#8
  | .check => 4#8
  | .exchange => 5#8
  | .select => 6#8
  | .command => 7#8

/-! ## Records and answers (Tables 11-4 to 11-6) -/

/-- A time field of a record: day 2 bytes, second of day 3 bytes, clock mark 1 byte (Table 11-5). -/
def stampBytes (t : Stamp) : List Byte :=
  bytesOf 2 t.day ++ bytesOf 3 t.second ++ bytesOf 1 (if t.marked then 1 else 0)

/-- A signed 32-bit field (R174). -/
def intBytes (x : Int) : List Byte := bytesOf 4 (intWord x).toNat

/-- Whether a record carries a quality part: any of the nine counts above 0 (R98). -/
def hasQuality (r : IntervalRecord) : Bool :=
  [r.substituted.p1, r.substituted.p2, r.substituted.p3, r.lost.p1, r.lost.p2, r.lost.p3,
    r.clipped.p1, r.clipped.p2, r.clipped.p3].any fun n => decide (0 < n)

/-- The basic part of an interval record (Table 11-5). -/
def basicPart (r : LogRecord) : List Byte :=
  bytesOf 4 r.sequence ++ stampBytes r.body.start ++ stampBytes r.body.finish ++ bytesOf 1 r.body.length ++
    bytesOf 1 ((r.body.basis.map basisCode).getD 0) ++ bytesOf 4 r.body.importWh ++ bytesOf 4 r.body.exportWh ++
    intBytes r.body.net.p1 ++ intBytes r.body.net.p2 ++ intBytes r.body.net.p3 ++
    bytesOf 4 r.body.peakExport ++ bytesOf 2 r.body.overSeconds ++ bytesOf 2 r.body.curtailSeconds ++
    bytesOf 1 (intervalFlagsValue r.body.flags) ++ bytesOf 1 (if hasQuality r.body then 1 else 0)

/-- Three counts as a part of the quality part (Table 11-5). -/
def countsBytes (c : PerPhase Nat) : List Byte := bytesOf 4 c.p1 ++ bytesOf 4 c.p2 ++ bytesOf 4 c.p3

/-- The quality part of an interval record (Table 11-5). -/
def qualityPart (r : IntervalRecord) : List Byte :=
  countsBytes r.substituted ++ countsBytes r.lost ++ countsBytes r.clipped

/-- A freeze record (Table 11-6). -/
def freezeBytes (r : FreezeRecord) : List Byte :=
  bytesOf 4 r.number ++ stampBytes r.time ++ bytesOf 1 (freezeCauseCode r.cause) ++
    bytesOf 4 (r.scheduledDay.getD 4294967295) ++ r.registers.imported.toList.flatMap (bytesOf 4) ++
    r.registers.exported.toList.flatMap (bytesOf 4) ++ bytesOf 4 r.sumImport ++ bytesOf 4 r.sumExport

/-- The result form byte and the result bytes of an answer (R175). -/
def resultBytes : Result → List Byte
  | .values ws => BitVec.ofNat 8 ws.length :: ws.flatMap fun w => bytesOf 4 w.toNat
  | .interval gap r =>
      17#8 :: bytesOf 4 gap ++ basicPart r ++ (if hasQuality r.body then qualityPart r.body else [])
  | .freeze r => 18#8 :: freezeBytes r

/-- The body of an answer frame (Table 11-4); a FULL answer has result form 0. -/
def answerBody : Answer → List Byte
  | .full tag => [tag, BitVec.ofNat 8 (replyCode .full), 0#8]
  | .executed tag r => tag :: BitVec.ofNat 8 (replyCode r.code) :: resultBytes r.result

/-- The bytes of an answer frame (R175). -/
def answerFrame (a : Answer) : List Byte := portFrame (answerBody a)

/-! ## Link frames (R176, Table 11-7) -/

/-- A downstream frame: its bytes with the check that makes their sum 0 modulo 256 (R176). -/
def linkFrame (bs : List Byte) : List Byte := bs ++ [BitVec.ofNat 8 (256 - byteSum bs % 256)]

/-- A strobe frame (Table 11-7). -/
def strobeFrame (n : Byte) : List Byte := linkFrame [1#8, n]

/-- An IDENTIFY control frame (Table 11-7). -/
def identifyFrame : List Byte := linkFrame [2#8, 1#8]

/-- A RESTART control frame (Table 11-7). -/
def restartFrame : List Byte := linkFrame [2#8, 2#8]

/-- A valid upstream frame (R3). -/
inductive Upstream where
  | sample (number : Byte) (x : Sample)
  | identity (serial : Word) (headClass : Nat)
  deriving DecidableEq, Repr

/-- The frame that the bytes between two idles spell, or nothing when they are invalid (R3, R176).  The head serial is
taken high byte first, as R176 has it for Vr and Ir alone (notes/assumptions/39.md). -/
def upstreamOf (bs : List Byte) : Option Upstream :=
  if byteSum bs % 256 ≠ 0 then none
  else match bs with
    | [t, n, vh, vl, ih, il, flags, _] =>
      if t = 3#8 then
        some (.sample n ⟨(vh ++ vl).toInt, (ih ++ il).toInt, flags.getLsbD 0⟩)
      else none
    | [t, s3, s2, s1, s0, c, _] =>
      if t = 4#8 ∧ 1 ≤ c.toNat ∧ c.toNat ≤ 4 then some (.identity (s3 ++ s2 ++ s1 ++ s0) c.toNat) else none
    | _ => none

end Sys2Proof.Machine
end

