-- ==== Sys2Proof/Machine/Ops.lean ====
section
/-! DEFINITION. Operations that several blocks share: meter time and the calendar (R56, R57), the length of a
second (R59), limits (R121) and the freeze moments (R92, R93). -/

namespace Sys2Proof.Machine

/-- The outcome of one command. -/
abbrev StepResult := Host.Outcome State Fault Refusal

/-! ## Meter time -/

/-- Seconds since the start of day 0 (R131, R153). -/
def instantSeconds (t : Instant) : Nat := t.day * 86400 + t.second

/-- Whether an end time passes from day 65,535 to day 0 (R56). -/
def dayWraps (day second : Nat) : Bool := decide (86400 ≤ second) && decide (65535 ≤ day)

/-- A time whose second of day may be 86,400, carried into the next day; day 65,535 is followed by day 0 (R56). -/
def carryDay (day second : Nat) : Instant :=
  if 86400 ≤ second then (if 65535 ≤ day then ⟨0, 0⟩ else ⟨day + 1, 0⟩) else ⟨day, second⟩

/-- A time for comparison with freeze moments and activation times: an end of 86,400 counts as second 0 of the
next day, which may be day 65,536 (R89, R93). -/
def momentOf (t : Stamp) : Instant := if 86400 ≤ t.second then ⟨t.day + 1, 0⟩ else ⟨t.day, t.second⟩

/-- A time with a clock mark. -/
def markTime (t : Instant) (marked : Bool) : Stamp := ⟨t.day, t.second, marked⟩

/-- The first object of a time: its day number (R174, Times). -/
def stampDayWord (t : Stamp) : Word := natWord t.day

/-- The second object of a time: the second of day, with 2,147,483,648 added when the mark is SET (R174). -/
def stampSecondWord (t : Stamp) : Word := natWord (t.second + if t.marked then 2147483648 else 0)

/-- A number of seconds from day 0 as a meter time, when it is one (R63). -/
def instantOfSeconds (n : Int) : Option Instant :=
  if 0 ≤ n ∧ n < 65536 * 86400 then some ⟨n.toNat / 86400, n.toNat % 86400⟩ else none

/-! ## The calendar (R57) -/

/-- The weekday of a day, 0 for Monday (R57). -/
def weekdayOf (day : Nat) : Fin 7 := Fin.ofNat 7 (day + 5)

/-- A leap year: divisible by 4, except a year divisible by 100 and not by 400 (R57). -/
def leapYear (y : Nat) : Bool := y % 4 == 0 && (y % 100 != 0 || y % 400 == 0)

/-- The number of days of a year. -/
def yearDays (y : Nat) : Nat := if leapYear y then 366 else 365

/-- The lengths of the months of a year. -/
def monthLengths (y : Nat) : List Nat :=
  [31, if leapYear y then 29 else 28, 31, 30, 31, 30, 31, 31, 30, 31, 30, 31]

/-- The year that holds day d counted from the start of year y, and the day within it. -/
def yearFrom : Nat → Nat → Nat → Nat × Nat
  | 0, y, d => (y, d)
  | fuel + 1, y, d => if d < yearDays y then (y, d) else yearFrom fuel (y + 1) (d - yearDays y)

/-- The month that holds day d counted from the start of month m, and the day within it. -/
def monthFrom : List Nat → Nat → Nat → Nat × Nat
  | [], m, d => (m, d)
  | l :: ls, m, d => if d < l then (m, d) else monthFrom ls (m + 1) (d - l)

/-- A calendar date. -/
structure Date where
  year : Nat
  month : Nat
  day : Nat
  deriving DecidableEq, Repr

/-- The Gregorian date of a day number; day 0 is 1 January 2000 (R57). -/
def dateOf (day : Nat) : Date :=
  let y := yearFrom 200 2000 day
  let m := monthFrom (monthLengths y.1) 1 y.2
  ⟨y.1, m.1, m.2 + 1⟩

/-- The day of the latest freeze moment of day-of-month f at or before a day, if it is not before day 0
(R92, R93): this month's, or that of the month before. -/
def latestFreezeDay (f day : Nat) : Option Nat :=
  let dom := (dateOf day).day
  if f ≤ dom then some (day - (dom - f))
  else if day < dom then none
  else some (day - dom - ((dateOf (day - dom)).day - f))

/-! ## Seconds (R59) -/

/-- The length of a second opened with slew remainder r, and the remainder afterwards (Table 4-3). -/
def secondLength (r : Int) : Nat × Int :=
  if 40 ≤ r then (3960, r - 40)
  else if r ≤ -40 then (4040, r + 40)
  else ((4000 - r).toNat, 0)

/-! ## Limits (R121) -/

/-- The lower of two limits; UNLIMITED counts as greater than every number of watts (R121). -/
def lowerLimit : Limit → Limit → Limit
  | .watts a, .watts b => .watts (min a b)
  | .watts a, .unlimited => .watts a
  | .unlimited, l => l

/-! ## Per phase -/

/-- The three phases. -/
def phases : List Phase := [.p1, .p2, .p3]

/-- The three ports in the arbiter's rotation (R159). -/
def ports : List Port := [.utility, .premises, .service]

/-- The sum of three values. -/
def sumInt (v : PerPhase Int) : Int := v.p1 + v.p2 + v.p3

/-- Add to one phase's value. -/
def addAt (v : PerPhase Nat) (φ : Phase) (n : Nat) : PerPhase Nat := v.set φ (v.get φ + n)

/-- Add three counts to three counts. -/
def addCounts (v w : PerPhase Nat) : PerPhase Nat := .of fun φ => v.get φ + w.get φ

/-- The index of a phase, counted from 0. -/
def phaseIndex : Phase → Nat
  | .p1 => 0
  | .p2 => 1
  | .p3 => 2

/-- Whether a phase is in use (R12). -/
def phaseInUse (u : PhasesInUse) (φ : Phase) : Bool := u = .three || φ = .p1

end Sys2Proof.Machine
end

