-- ==== Sys2Proof/Machine/Pulse.lean ====
section
/-! DEFINITION. Chapter 8: the pulse hand-offs, the pulse generator, and test mode (R133 to R143). -/

namespace Sys2Proof.Machine

/-- The most quanta that wait to be pulsed (R133). -/
def pendingCountLimit : Nat := 4095

/-- The strobes of one minute (R137). -/
def strobesPerMinute : Nat := 240000

/-- TPLS is high while the generator is ACTIVE (R135). -/
def tplsHigh (s : State) : Bool := s.pulse.generator = .active

/-- The start of a pulse: ACTIVE for A ms, one taken from the pending count (R135). -/
def startPulse (u : Pulse) : Pulse :=
  { u with generator := .active, period := u.activeWidth, pendingCount := u.pendingCount - 1 }

/-- Whether a hand-off is current: its mode is the present test mode and, in TEST, its D the present D (R133). -/
def handOffCurrent (u : Pulse) (h : HandOff) : Bool :=
  h.test == u.test && (!u.test || h.divisor == u.divisor)

/-- What a hand-off adds to the pending count under the pulse source (R133). -/
def pulsedCount (u : Pulse) (h : HandOff) : Nat :=
  match u.source with
  | .imported => h.importCount
  | .exported => h.exportCount
  | .absolute => h.importCount + h.exportCount

/-- Add quanta to the pending count; those above the limit are dropped and counted (R133). -/
def addPulses (u : Pulse) (n : Nat) : Pulse :=
  { u with
    pendingCount := min pendingCountLimit (u.pendingCount + n)
    dropped := addSaturating 65535 u.dropped (u.pendingCount + n - pendingCountLimit) }

/-- The test counters gain a hand-off of TEST (R138). -/
def countTest (u : Pulse) (h : HandOff) : Pulse :=
  if u.test then
    { u with testImport := addWh u.testImport h.importCount, testExport := addWh u.testExport h.exportCount }
  else u

/-- An IDLE generator starts on a pending count above 0 (R135). -/
def wakeGenerator (u : Pulse) : Pulse :=
  if u.generator = .idle ∧ 0 < u.pendingCount then startPulse u else u

/-- The pulse unit takes one hand-off whole (R133). -/
def takeHandOff (u : Pulse) (h : HandOff) : Pulse :=
  if handOffCurrent u h then
    let n := pulsedCount u h
    let v := countTest (addPulses u n) h
    if 0 < n then wakeGenerator v else v
  else u

/-- TEST ends with a cause; in NORMAL nothing happens (R140). -/
def endTest (cause : ExitCause) (s : State) : State :=
  if s.pulse.test then
    raise .testModeChange { s with pulse := { s.pulse with
      test := false, pendingCount := 0, timer := 0, lastExit := cause } }
  else s

/-- The test timer falls by one at a strobe issued in TEST, and ends TEST at 0 (R139). -/
def tickTestTimer (s : State) : State :=
  if s.pulse.test then
    let s' := { s with pulse := { s.pulse with timer := s.pulse.timer - 1 } }
    if s'.pulse.timer = 0 then endTest .timer s' else s'
  else s

/-- TEST is entered (R137). -/
def enterTest (s : State) : State :=
  raise .testModeChange { s with pulse := { s.pulse with
    test := true, testImport := 0, testExport := 0, pendingCount := 0, dropped := 0,
    timer := s.pulse.timeout * strobesPerMinute } }

/-- PULSE_HAND_OFF (R133).  In DORMANT, where TPLS is held low, a hand-off is discarded
(notes/assumptions/17.md). -/
def execPulseHandOff (s : State) : StepResult :=
  .next (match s.wires.handOffs with
    | [] => s
    | h :: hs =>
      let s' := { s with wires := { s.wires with handOffs := hs } }
      if s.store.state = .dormant then s' else { s' with pulse := takeHandOff s'.pulse h })

/-- ACTIVE_PERIOD_END (R135). -/
def execActivePeriodEnd (s : State) : StepResult :=
  .next (if s.pulse.generator = .active then
      { s with pulse := { s.pulse with generator := .gap, period := s.pulse.gapWidth } }
    else s)

/-- GAP_PERIOD_END (R135). -/
def execGapPeriodEnd (s : State) : StepResult :=
  .next (if s.pulse.generator = .gap then
      if 0 < s.pulse.pendingCount then { s with pulse := startPulse s.pulse }
      else { s with pulse := { s.pulse with generator := .idle, period := 0 } }
    else s)

end Sys2Proof.Machine
end

