-- ==== Sys2Proof/Machine/Clock.lean ====
section
/-! DEFINITION. Chapter 4, the time base: counting set closings, the second boundary and the clock corrections
(R56, R58 to R64), and the backup clock's loading at a boundary (R149). -/

namespace Sys2Proof.Machine

/-- The end time of the running second, with its clock mark (R56). -/
def runningEnd (b : TimeBase) : Stamp := ⟨b.start.day, b.start.second + 1, b.set⟩

/-- The boundary notice of the running second (R60, stage 1). -/
def noticeOf (b : TimeBase) : BoundaryNotice :=
  { count := b.length, start := markTime b.start b.set, finish := runningEnd b, step := b.step }

/-- Open the next second with a start time, a clock state and a slew remainder (R59, R60). -/
def openSecond (b : TimeBase) (start : Instant) (set : Bool) (slew : Int) : TimeBase :=
  { b with start := start, set := set, length := (secondLength slew).1, counted := 0,
           slew := (secondLength slew).2, step := none }

/-- The time base after a boundary: from the pending step (R64), or from the end time (R56). -/
def afterBoundary (b : TimeBase) : TimeBase :=
  match b.step with
  | some t => openSecond b t true 0
  | none =>
    let e := runningEnd b
    openSecond b (carryDay e.day e.second) (b.set && !dayWraps e.day e.second) b.slew

/-- The second boundary (R60): the notice goes to the metrology unit, the next second opens, the backup clock is
loaded (R149), and TIME_STEPPED is raised when a step was applied (R64). -/
def takeBoundary (s : State) : State :=
  let b := afterBoundary s.timeBase
  raiseIf s.timeBase.step.isSome .timeStepped
    { s with
      timeBase := b
      wires := { s.wires with notices := s.wires.notices ++ [noticeOf s.timeBase] }
      store := { s.store with backup := ⟨b.start, b.set, true⟩ } }

/-- Whether the next set closing reaches the running second's length (R60). -/
def boundaryDue (b : TimeBase) : Bool := decide (b.length ≤ b.counted + 1)

/-- One set closing counted by the time base, with the boundary it reaches (R60). -/
def countClosing (s : State) : State :=
  if boundaryDue s.timeBase then takeBoundary s
  else { s with timeBase := { s.timeBase with counted := s.timeBase.counted + 1 } }

/-- The outcome of a TIME ADJUST taken while the clock is SET (R62, R63): a slew, a step, or nothing when the new
time is out of range.  The base is the pending step's time, or the running second's end time
(notes/assumptions/14.md). -/
def adjustTime (b : TimeBase) (delta : Int) : Option TimeBase :=
  if b.step.isNone && decide (-30 ≤ delta ∧ delta ≤ 30) then some { b with slew := delta * 4000 }
  else
    let base : Instant := b.step.getD ⟨(runningEnd b).day, (runningEnd b).second⟩
    (instantOfSeconds (instantSeconds base + delta)).map fun t => { b with step := some t }

end Sys2Proof.Machine
end

