-- ==== Sys2Proof/Machine/Sensing.lean ====
section
/-! DEFINITION. Chapter 1: link receivers and sample assembly (R1 to R18).  A strobe issue is one event: it
closes set n−2, opens set n, sends the downstream frames, counts the closing in the time base (R60) and the
strobe in the test timer (R139). -/

namespace Sys2Proof.Machine

/-! ## Link states (R4) -/

/-- The link's own changes on entering a state (R4). -/
def enterState (l : Link) (target : LinkState) : Link :=
  let left : Link := if l.state = .locked then { l with missingRun := 0 } else l
  match target with
  | .down => { left with state := .down, countdown := 0 }
  | .mismatch => { left with state := .mismatch, countdown := 0 }
  | .locked => { left with state := .locked, missingRun := 0 }
  | .disabled => { left with state := .disabled, control := .empty, serial := 0, reportedClass := 0 }

/-- A slot emptied: a sample it holds is dropped (R4). -/
def emptySlot : Slot → Slot
  | .filled _ => .empty
  | x => x

/-- Empty a phase's slots in the open sample sets (R4). -/
def emptySlots (φ : Phase) (sets : List OpenSet) : List OpenSet :=
  sets.map fun o => { o with slots := o.slots.set φ (emptySlot (o.slots.get φ)) }

/-- Replace a phase's link. -/
def setLink (φ : Phase) (l : Link) (s : State) : State :=
  { s with assembly := { s.assembly with links := s.assembly.links.set φ l } }

/-- A change of a link's state, with the entry and exit actions and LINK_CHANGE; a link already in that state is
not changed (R4). -/
def changeLink (φ : Phase) (target : LinkState) (s : State) : State :=
  let l := s.assembly.links.get φ
  if l.state = target then s
  else
    let sets := if l.state = .locked then emptySlots φ s.assembly.openSets else s.assembly.openSets
    raise .linkChange { s with assembly := { s.assembly with
      links := s.assembly.links.set φ (enterState l target), openSets := sets } }

/-! ## Upstream frames (R3, R5 to R7, R13) -/

/-- An invalid frame is counted (R3, R11). -/
def countInvalid (φ : Phase) (s : State) : State :=
  let l := s.assembly.links.get φ
  setLink φ { l with invalidFrames := addSaturating 65535 l.invalidFrames 1 } s

/-- A late frame is counted (R11, R13). -/
def countLate (φ : Phase) (s : State) : State :=
  let l := s.assembly.links.get φ
  setLink φ { l with lateFrames := addSaturating 65535 l.lateFrames 1 } s

/-- Whether a set is the open set of a number with an empty slot for a phase (R13). -/
def takesSample (φ : Phase) (n : Byte) (o : OpenSet) : Bool := o.number == n && o.slots.get φ == .empty

/-- Fill the empty slot of the open set that a sample names (R13). -/
def fillSlot (φ : Phase) (n : Byte) (x : Sample) (o : OpenSet) : OpenSet :=
  if takesSample φ n o then { o with slots := o.slots.set φ (.filled x) } else o

/-- A sample frame of a LOCKED link fills the empty slot of its open set, or counts as late (R13). -/
def takeSample (φ : Phase) (n : Byte) (x : Sample) (s : State) : State :=
  if s.assembly.openSets.any (takesSample φ n) then
    { s with assembly := { s.assembly with openSets := s.assembly.openSets.map (fillSlot φ n x) } }
  else countLate φ s

/-- The serial and class of an identity frame are recorded (R5 to R7). -/
def recordIdentity (φ : Phase) (serial : Word) (c : Nat) (s : State) : State :=
  setLink φ { s.assembly.links.get φ with serial := serial, reportedClass := c } s

/-- A valid identity frame, by the link's state (R5, R6, R7). -/
def takeIdentity (φ : Phase) (serial : Word) (c : Nat) (s : State) : State :=
  let l := s.assembly.links.get φ
  match l.state with
  | .disabled => s
  | .down => changeLink φ (if c = l.configuredClass then .locked else .mismatch) (recordIdentity φ serial c s)
  | .locked =>
    if c = l.configuredClass then
      if serial = l.serial then s else raise .linkChange (setLink φ { l with serial := serial } s)
    else changeLink φ .mismatch (recordIdentity φ serial c s)
  | .mismatch =>
    if c = l.configuredClass then changeLink φ .locked (recordIdentity φ serial c s)
    else recordIdentity φ serial c s

/-- A link receiver takes the bytes received before an idle as one frame (R3, R176).  A DISABLED link receives
nothing, and so does every link while the store is not RUNNING; no bytes are no frame. -/
def receiveFrame (φ : Phase) (bytes : List Byte) (s : State) : State :=
  if s.store.state ≠ .running ∨ (s.assembly.links.get φ).state = .disabled ∨ bytes = [] then s
  else match upstreamOf bytes with
    | none => countInvalid φ s
    | some (.identity serial c) => takeIdentity φ serial c s
    | some (.sample n x) => if (s.assembly.links.get φ).state = .locked then takeSample φ n x s else s

/-! ## Closing a set (R9, R14 to R16) -/

/-- The strobes without a sample after which a LOCKED link goes DOWN (R9). -/
def missingRunLimit : Nat := 32

/-- The substituted sets after which a phase is LOST (R16). -/
def substitutionLimit : Nat := 4000

/-- What a closing makes of one phase: its disposition, quality and substitution run (Table 1-4, R14). -/
structure PhaseClosing where
  disposition : Disposition
  quality : Quality
  run : Nat
  deriving DecidableEq, Repr

/-- The closing of a set for a phase (R14 to R16). -/
def closePhase (inUse : Bool) (slot : Slot) (q : Quality) (run : Nat) : PhaseClosing :=
  if inUse then
    match slot with
    | .filled x => ⟨.sample x, .good, 0⟩
    | _ =>
      match q with
      | .good => ⟨.substituted, .substituting, 1⟩
      | .substituting =>
        if substitutionLimit ≤ run + 1 then ⟨.substituted, .lost, 0⟩ else ⟨.substituted, .substituting, run + 1⟩
      | .lost => ⟨.lost, .lost, 0⟩
      | .disabled => ⟨.lost, .lost, 0⟩
  else ⟨.disabled, .disabled, 0⟩

/-- The closing of a phase in the present state, with its slot in the set that closes. -/
def phaseClosing (s : State) (o : OpenSet) (φ : Phase) : PhaseClosing :=
  closePhase (phaseInUse s.assembly.phases φ) (o.slots.get φ) (s.assembly.quality.get φ)
    (s.assembly.substitutionRun.get φ)

/-- Whether a phase in use becomes LOST at this closing (R16). -/
def becomesLost (s : State) (o : OpenSet) (φ : Phase) : Bool :=
  s.assembly.quality.get φ == .substituting && (phaseClosing s o φ).quality == .lost

/-- Whether a LOST phase becomes GOOD at this closing (R15). -/
def becomesRestored (s : State) (o : OpenSet) (φ : Phase) : Bool :=
  s.assembly.quality.get φ == .lost && (phaseClosing s o φ).quality == .good

/-- Whether a slot holds a sample. -/
def holdsSample : Slot → Bool
  | .filled _ => true
  | _ => false

/-- The missing-run step of one link at a closing; a run that reaches 32 takes the link to DOWN (R9). -/
def stepMissingRun (o : OpenSet) (φ : Phase) (s : State) : State :=
  let l := s.assembly.links.get φ
  if l.state = .locked then
    if holdsSample (o.slots.get φ) then setLink φ { l with missingRun := 0 } s
    else if missingRunLimit ≤ l.missingRun + 1 then
      changeLink φ .down (setLink φ { l with missingRun := l.missingRun + 1 } s)
    else setLink φ { l with missingRun := l.missingRun + 1 } s
  else s

/-- The quality part of a closing: dispositions, qualities, runs, the closed set and the phase events
(R14 to R16). -/
def closeQuality (o : OpenSet) (s : State) : State :=
  let quality : PerPhase Quality := .of fun φ => (phaseClosing s o φ).quality
  let s' := { s with
    assembly := { s.assembly with
      quality := quality
      substitutionRun := .of fun φ => (phaseClosing s o φ).run
      openSets := s.assembly.openSets.filter (fun x => x.number != o.number) }
    wires := { s.wires with sets := s.wires.sets ++
      [⟨o.number, .of fun φ => (phaseClosing s o φ).disposition, quality⟩] } }
  raiseIf (phases.any (becomesRestored s o)) .phaseRestored (raiseIf (phases.any (becomesLost s o)) .phaseLost s')

/-- A set is closed: quality, missing runs, and the count of the time base (R14). -/
def closeSet (o : OpenSet) (s : State) : State :=
  countClosing (phases.foldl (fun t φ => stepMissingRun o φ t) (closeQuality o s))

/-- The open set that a strobe issue closes: set n−2, modulo 256 (R1). -/
def setToClose (s : State) : Option OpenSet :=
  s.assembly.openSets.find? fun o => o.number == s.assembly.strobe - 2#8

/-! ## Strobe issue (R1, R2) -/

/-- The slots of a set as it opens: one empty slot per phase in use (R1). -/
def freshSlots (u : PhasesInUse) : PerPhase Slot := .of fun φ => if phaseInUse u φ then .empty else .absent

/-- Stage 2 of a strobe issue: set n is opened, and the next strobe number is n + 1 (R1). -/
def openSet (s : State) : State :=
  { s with assembly := { s.assembly with
      openSets := s.assembly.openSets ++ [⟨s.assembly.strobe, freshSlots s.assembly.phases⟩]
      strobe := s.assembly.strobe + 1#8 } }

/-- The strobes after an IDENTIFY before the next (R2). -/
def identifyPeriod : Nat := 3999

/-- The frames a link receiver sends at strobe n, and its link afterwards (R2). -/
def linkFrames (n : Byte) (l : Link) : List (List Byte) × Link :=
  match l.state with
  | .disabled => ([], l)
  | .locked =>
    if l.control = .restart then ([strobeFrame n, restartFrame], { l with control := .empty })
    else ([strobeFrame n], l)
  | .down | .mismatch =>
    if l.control = .restart then
      ([strobeFrame n, restartFrame], { l with control := .empty })
    else if l.countdown = 0 then ([strobeFrame n, identifyFrame], { l with countdown := identifyPeriod })
    else ([strobeFrame n], { l with countdown := l.countdown - 1 })

/-- Stage 3 of a strobe issue: the downstream frames of strobe n on every link (R2). -/
def sendFrames (n : Byte) (s : State) : State :=
  { s with assembly := { s.assembly with
      sent := .of fun φ => (linkFrames n (s.assembly.links.get φ)).1
      links := .of fun φ => (linkFrames n (s.assembly.links.get φ)).2 } }

/-- Stage 1 of a strobe issue (R1). -/
def closeDueSet (s : State) : State :=
  match setToClose s with
  | some o => closeSet o s
  | none => s

/-- One strobe issue in RUNNING: the three stages of R1, and the test timer's strobe (R139). -/
def issueStrobe (s : State) : State :=
  tickTestTimer (sendFrames s.assembly.strobe (openSet (closeDueSet s)))

/-- STROBE_ISSUE (R1).  Strobes are issued while the store is RUNNING. -/
def execStrobeIssue (s : State) : StepResult :=
  .next (if s.store.state = .running then issueStrobe s else s)

/-- Whether a link sends an IDENTIFY with the next strobe: the frames that would go out hold one (R2). -/
def identifyDue (φ : Phase) (s : State) : Bool :=
  identifyFrame ∈ (linkFrames s.assembly.strobe ((closeDueSet s).assembly.links.get φ)).1

/-- IDENTIFY_COUNTDOWN_EXPIRY (R2): the strobe issue at which the link sends its IDENTIFY
(notes/assumptions/2.md). -/
def execIdentifyCountdownExpiry (φ : Phase) (s : State) : StepResult :=
  .next (if s.store.state = .running && identifyDue φ s then issueStrobe s else s)

/-- Whether the set that the next strobe closes takes a link's missing run to its limit (R9). -/
def missingRunDue (φ : Phase) (s : State) : Bool :=
  match setToClose s with
  | none => false
  | some o =>
    let l := s.assembly.links.get φ
    l.state == .locked && !holdsSample (o.slots.get φ) && decide (missingRunLimit ≤ l.missingRun + 1)

/-- MISSING_RUN_EXPIRY (R9): the strobe issue at whose closing the link's missing run reaches 32. -/
def execMissingRunExpiry (φ : Phase) (s : State) : StepResult :=
  .next (if s.store.state = .running && missingRunDue φ s then issueStrobe s else s)

/-- Whether the set that the next strobe closes takes a phase to LOST (R16). -/
def substitutionDue (φ : Phase) (s : State) : Bool :=
  match setToClose s with
  | none => false
  | some o => becomesLost s o φ

/-- SUBSTITUTION_RUN_EXPIRY (R16): the strobe issue at whose closing the substitution run reaches 4,000. -/
def execSubstitutionRunExpiry (φ : Phase) (s : State) : StepResult :=
  .next (if s.store.state = .running && substitutionDue φ s then issueStrobe s else s)

/-- SECOND_BOUNDARY (R60): the strobe issue whose set closing reaches the running second's length. -/
def execSecondBoundary (s : State) : StepResult :=
  .next (if s.store.state = .running && (setToClose s).isSome && boundaryDue s.timeBase then issueStrobe s else s)

/-- TEST_TIMER_EXPIRY (R139): the strobe issue at which the test timer reaches 0. -/
def execTestTimerExpiry (s : State) : StepResult :=
  .next (if s.store.state = .running && s.pulse.test && decide (s.pulse.timer ≤ 1) then issueStrobe s else s)

/-- UPSTREAM_FRAME (R3). -/
def execUpstreamFrame (φ : Phase) (bytes : List Byte) (s : State) : StepResult :=
  .next (receiveFrame φ bytes s)

/-! ## Settings and commands of the links (R8, R10, R12) -/

/-- A new configured class, by the link's state (R8). -/
def setConfiguredClass (φ : Phase) (c : Nat) (s : State) : State :=
  let l := s.assembly.links.get φ
  if c = l.configuredClass then s
  else
    let s' := setLink φ { l with configuredClass := c } s
    match l.state with
    | .locked => if c = l.reportedClass then s' else changeLink φ .mismatch s'
    | .mismatch => setLink φ { l with configuredClass := c, countdown := 0 } s
    | .down | .disabled => s'

/-- LINK RESTART of a phase in use (R10). -/
def restartLink (φ : Phase) (s : State) : State :=
  let s' := changeLink φ .down s
  setLink φ { s'.assembly.links.get φ with control := .restart, countdown := 0 } s'

/-- Both counters of every link set to 0 (R11). -/
def clearCounters (a : Assembly) : Assembly :=
  { a with links := .of fun φ => { a.links.get φ with invalidFrames := 0, lateFrames := 0 } }

/-- A phase newly out of use: quality DISABLED, run 0, live quality and live power (R12, R37). -/
def disablePhase (φ : Phase) (s : State) : State :=
  let s' := changeLink φ .disabled s
  let t := { s' with
    assembly := { s'.assembly with
      quality := s'.assembly.quality.set φ .disabled
      substitutionRun := s'.assembly.substitutionRun.set φ 0 }
    metrology := { s'.metrology with live := { s'.metrology.live with
      quality := s'.metrology.live.quality.set φ .disabled
      power := s'.metrology.live.power.set φ 0 } } }
  raiseIf (s.assembly.quality.get φ == .lost) .phaseRestored t

/-- A phase newly in use: link DOWN, quality LOST, run 0, live quality (R12, R37). -/
def enablePhase (φ : Phase) (s : State) : State :=
  let s' := changeLink φ .down s
  raise .phaseLost { s' with
    assembly := { s'.assembly with
      quality := s'.assembly.quality.set φ .lost
      substitutionRun := s'.assembly.substitutionRun.set φ 0 }
    metrology := { s'.metrology with live := { s'.metrology.live with
      quality := s'.metrology.live.quality.set φ .lost } } }

/-- A write of the phases-in-use setting (R12). -/
def setPhasesInUse (u : PhasesInUse) (s : State) : State :=
  if u = s.assembly.phases then s
  else
    let s' := { s with assembly := { s.assembly with phases := u } }
    match u with
    | .one => disablePhase .p3 (disablePhase .p2 s')
    | .three => enablePhase .p3 (enablePhase .p2 s')

/-- What the links and the assembly do when the store leaves RUNNING: the open sets are discarded and the
control slots emptied (R18). -/
def stopSensing (a : Assembly) : Assembly :=
  { a with openSets := [], links := .of fun φ => { a.links.get φ with control := .empty } }

end Sys2Proof.Machine
end

