-- ==== Sys2Proof/Machine/Measuring.lean ====
section
/-! DEFINITION. Chapter 2: the metrology unit, from closed set to second summary (R20 to R37). -/

namespace Sys2Proof.Machine

/-! ## Calibration (R23 to R26) -/

/-- The full scale of a calibrated value (R24). -/
def fullScale : Int := 32767

/-- A raw code less its offset, times its gain over 32,768, rounded half away from zero (R24, steps 1 and 2). -/
def scaledCode (raw offset : Int) (gain : Nat) : Int := roundHalfAway ((raw - offset) * gain) 32768

/-- A calibrated value (R24). -/
def calibratedCode (raw offset : Int) (gain : Nat) : Int :=
  clampInt (-fullScale) fullScale (scaledCode raw offset gain)

/-- Whether the clamp of R24 changed a value. -/
def clampChanges (raw offset : Int) (gain : Nat) : Bool :=
  calibratedCode raw offset gain != scaledCode raw offset gain

/-- The power code of a sample (R26). -/
def powerCode (c : CalibrationSet) (x : Sample) : Int :=
  calibratedCode x.vr c.offsetV c.gainV * calibratedCode x.ir c.offsetI c.gainI

/-- Whether a sample is a clipped sample (R25). -/
def clippedSample (c : CalibrationSet) (x : Sample) : Bool :=
  x.overload || clampChanges x.vr c.offsetV c.gainV || clampChanges x.ir c.offsetI c.gainI

/-- A phase's disposition, calibrated (R24 to R26). -/
def readingOf (c : CalibrationSet) : Disposition → Reading
  | .sample x => .sample (powerCode c x) (clippedSample c x)
  | .substituted => .substituted
  | .lost => .lost
  | .disabled => .disabled

/-- A closed set, calibrated with the calibration sets held when it reaches the unit (R23). -/
def calibrateSet (m : Metrology) (c : ClosedSet) : CalibratedSet :=
  ⟨.of fun φ => readingOf (m.calibration.get φ) (c.dispositions.get φ), c.quality⟩

/-- The power code that a reading contributes, given the phase's last mean power code (R26). -/
def readingPower (mean : Int) : Reading → Int
  | .sample p _ => p
  | .substituted => mean
  | .lost => 0
  | .disabled => 0

/-- What a reading adds to the clipped count (R25, R26). -/
def readingClipped : Reading → Nat
  | .sample _ true => 1
  | _ => 0

/-- What a reading adds to the substituted count (R26). -/
def readingSubstituted : Reading → Nat
  | .substituted => 1
  | _ => 0

/-- What a reading adds to the lost count (R26). -/
def readingLost : Reading → Nat
  | .lost => 1
  | _ => 0

/-- A set added into the running second (R26). -/
def addSet (mean : PerPhase Int) (c : CalibratedSet) (r : Running) : Running :=
  { sum := .of fun φ => r.sum.get φ + readingPower (mean.get φ) (c.readings.get φ)
    sets := r.sets + 1
    clipped := .of fun φ => r.clipped.get φ + readingClipped (c.readings.get φ)
    substituted := .of fun φ => r.substituted.get φ + readingSubstituted (c.readings.get φ)
    lost := .of fun φ => r.lost.get φ + readingLost (c.readings.get φ)
    quality := c.quality }

/-! ## Closing the second (R28 to R34) -/

/-- The power-code samples of one watt in a second of n sets, n × 16,384 (R34, R116). -/
def codesPerWatt (n : Nat) : Nat := n * 16384

/-- The mean power codes of a second (R29). -/
def meanCodes (r : Running) : PerPhase Int := .of fun φ => (r.sum.get φ).tdiv r.sets

/-- The creep decision: 10 × |M| strictly below 16,384 × C (R32). -/
def creepSuppressed (threshold : Nat) (mean : Int) : Bool := decide (10 * mean.natAbs < 16384 * threshold)

/-- The energy sums of a second (R32). -/
def energySums (threshold : Nat) (r : Running) : PerPhase Int :=
  .of fun φ => if creepSuppressed threshold ((meanCodes r).get φ) then 0 else r.sum.get φ

/-- The second summary (R33, Table 2-4). -/
def summaryOf (threshold : Nat) (b : BoundaryNotice) (r : Running) : Summary :=
  { start := b.start, finish := b.finish, step := b.step, sets := r.sets, sum := r.sum,
    energy := energySums threshold r, sumEnergy := sumInt (energySums threshold r),
    clipped := r.clipped, substituted := r.substituted, lost := r.lost, quality := r.quality }

/-- The sum mean power in W, rounded half away from zero (R34, R116). -/
def sumMeanPower (sum : PerPhase Int) (n : Nat) : Int := roundHalfAway (sumInt sum) (codesPerWatt n)

/-- The live values of a closed second (R34, Table 2-5). -/
def liveOf (threshold : Nat) (b : BoundaryNotice) (r : Running) : Live :=
  { valid := true, finish := b.finish
    power := .of fun φ => roundHalfAway (r.sum.get φ) (codesPerWatt r.sets)
    sumPower := sumMeanPower r.sum r.sets
    creep := .of fun φ => creepSuppressed threshold ((meanCodes r).get φ)
    quality := r.quality }

/-- The second of a boundary notice is closed: the summary is sent to three blocks, M and the live values are
replaced, and the next second opens (R28). -/
def closeSecond (b : BoundaryNotice) (s : State) : State :=
  let m := s.metrology
  let y := summaryOf m.creepThreshold b m.running
  { s with
    metrology := { m with
      running := .empty
      mean := meanCodes m.running
      live := liveOf m.creepThreshold b m.running
      notices := m.notices.drop 1 }
    wires := { s.wires with
      toNetting := s.wires.toNetting ++ [y]
      toEnvelope := s.wires.toEnvelope ++ [y]
      toInterval := s.wires.toInterval ++ [y] } }

/-- The boundary notice of the second that is filling, held or still on its way (R28, R35). -/
def noticeAhead (s : State) : Option BoundaryNotice := (s.metrology.notices ++ s.wires.notices).head?

/-- Whether the unit measures: in RUNNING, and after it for a second whose notice was sent before (R35). -/
def measuring (s : State) : Bool := s.store.state = .running || (noticeAhead s).isSome

/-- Whether the running second already holds the sets its notice names (R28). -/
def secondFull (s : State) : Bool :=
  match noticeAhead s with
  | some b => decide (b.count ≤ s.metrology.running.sets)
  | none => false

/-- The unit discards its running second and the sets held for the next (R35). -/
def discardSecond (s : State) : State :=
  { s with metrology := { s.metrology with running := .empty, heldSets := [] } }

/-- The second closes when its notice is held and its sets are in; a second that nothing will close any more is
discarded (R28, R35). -/
def closeWhenComplete (s : State) : State :=
  match s.metrology.notices with
  | [] => s
  | b :: _ =>
    if b.count ≤ s.metrology.running.sets then
      let s' := closeSecond b s
      if measuring s' then s' else discardSecond s'
    else s

/-- A calibrated set reaches the running second: added, or held when it belongs to the second after (R28). -/
def takeSet (c : CalibratedSet) (s : State) : State :=
  if measuring s then
    if secondFull s || !s.metrology.heldSets.isEmpty then
      { s with metrology := { s.metrology with heldSets := s.metrology.heldSets ++ [c] } }
    else
      closeWhenComplete { s with metrology := { s.metrology with
        running := addSet s.metrology.mean c s.metrology.running } }
  else s

/-- SAMPLE_SET_TAKE (R26). -/
def execSampleSetTake (s : State) : StepResult :=
  .next (match s.wires.sets with
    | [] => s
    | c :: cs =>
      takeSet (calibrateSet s.metrology c) { s with wires := { s.wires with sets := cs } })

/-- The held sets are given to the second that has opened, in their order (R28). -/
def releaseSets (s : State) : State :=
  s.metrology.heldSets.foldl (fun t c => takeSet c t)
    { s with metrology := { s.metrology with heldSets := [] } }

/-- BOUNDARY_NOTICE (R28). -/
def execBoundaryNotice (s : State) : StepResult :=
  .next (match s.wires.notices with
    | [] => s
    | b :: bs =>
      let s' := { s with
        metrology := { s.metrology with notices := s.metrology.notices ++ [b] }
        wires := { s.wires with notices := bs } }
      let t := closeWhenComplete s'
      if t.metrology.notices.length < s'.metrology.notices.length then releaseSets t else t)

/-- What the unit does when the store leaves RUNNING: a second whose notice will not come is discarded, with the
sets still on their way (R35). -/
def stopMeasuring (s : State) : State :=
  if (noticeAhead s).isSome then s
  else { discardSecond s with wires := { s.wires with sets := [] } }

/-! ## Settings (R21, R22, R31) -/

/-- A gain stored in a calibration set (R21). -/
def storeGain (x : Quantity) (g : Nat) (c : CalibrationSet) : CalibrationSet :=
  match x with
  | .voltage => { c with gainV := g }
  | .current => { c with gainI := g }

/-- An offset stored in a calibration set (R22). -/
def storeOffset (x : Quantity) (o : Int) (c : CalibrationSet) : CalibrationSet :=
  match x with
  | .voltage => { c with offsetV := o }
  | .current => { c with offsetI := o }

/-- Replace a phase's calibration set. -/
def setCalibration (φ : Phase) (c : CalibrationSet) (s : State) : State :=
  { s with metrology := { s.metrology with calibration := s.metrology.calibration.set φ c } }

end Sys2Proof.Machine
end

