-- ==== Sys2Proof/Machine/Netting.lean ====
section
/-! DEFINITION. Chapter 3: the netting unit (R38 to R55). -/

namespace Sys2Proof.Machine

/-- The quantum, 1 Wh in power-code samples (section 3.1). -/
def quantum : Int := 235929600000

/-- The quanta an accumulator gives up when its input is added, truncated toward zero (R39). -/
def stepQuanta (q x s : Int) : Int := (x + s).tdiv q

/-- The accumulator after its dispatch step (R39). -/
def stepRemainder (q x s : Int) : Int := (x + s) - stepQuanta q x s * q

/-- The import part of a signed number of quanta. -/
def importPart (k : Int) : Nat := if 0 < k then k.natAbs else 0

/-- The export part of a signed number of quanta. -/
def exportPart (k : Int) : Nat := if k < 0 then k.natAbs else 0

/-- The sum of three counts. -/
def sumNat (v : PerPhase Nat) : Nat := v.p1 + v.p2 + v.p3

/-- The per-phase quanta of a second (R39). -/
def phaseQuanta (a : Accumulators) (y : Summary) : PerPhase Int :=
  .of fun φ => stepQuanta quantum (a.phase.get φ) (y.energy.get φ)

/-- The sum quanta of a second (R39). -/
def vectorQuanta (a : Accumulators) (y : Summary) : Int := stepQuanta quantum a.sum y.sumEnergy

/-- The four billing accumulators after their dispatch step (R39). -/
def stepAccumulators (a : Accumulators) (y : Summary) : Accumulators :=
  { phase := .of fun φ => stepRemainder quantum (a.phase.get φ) (y.energy.get φ)
    sum := stepRemainder quantum a.sum y.sumEnergy }

/-- The billing import quanta under a basis (R43). -/
def billingImport (b : Basis) (k : PerPhase Int) (kS : Int) : Nat :=
  match b with
  | .phase => sumNat (.of fun φ => importPart (k.get φ))
  | .vector => importPart kS

/-- The billing export quanta under a basis (R43). -/
def billingExport (b : Basis) (k : PerPhase Int) (kS : Int) : Nat :=
  match b with
  | .phase => sumNat (.of fun φ => exportPart (k.get φ))
  | .vector => exportPart kS

/-- The eight totals gain a second's quanta (R46, R47). -/
def gainTotals (t : Totals) (k : PerPhase Int) (kS : Int) : Totals :=
  { phaseImport := .of fun φ => addWh (t.phaseImport.get φ) (importPart (k.get φ))
    phaseExport := .of fun φ => addWh (t.phaseExport.get φ) (exportPart (k.get φ))
    sumImport := addWh t.sumImport (importPart kS)
    sumExport := addWh t.sumExport (exportPart kS) }

/-- The test threshold QT = Q / D (R49). -/
def testThreshold (d : Nat) : Int := quantum / d

/-- The dispatch of a second (R50, Table 3-4). -/
def dispatchOf (s : State) (y : Summary) : Dispatch :=
  let k := phaseQuanta s.netting.accumulators y
  let kS := vectorQuanta s.netting.accumulators y
  { start := y.start, finish := y.finish
    billImport := billingImport s.netting.basis k kS
    billExport := billingExport s.netting.basis k kS
    basis := s.netting.basis, quanta := k, sumQuanta := kS
    clipped := y.clipped, substituted := y.substituted, lost := y.lost, test := s.pulse.test }

/-- The test quanta of a second taken in TEST (R49). -/
def testQuanta (s : State) (y : Summary) : Int :=
  stepQuanta (testThreshold s.pulse.divisor) s.netting.testAccumulator y.sumEnergy

/-- The pulse hand-off of a second (R51). -/
def handOffOf (s : State) (y : Summary) : HandOff :=
  let d := dispatchOf s y
  if s.pulse.test then
    ⟨importPart (testQuanta s y), exportPart (testQuanta s y), true, s.pulse.divisor⟩
  else ⟨d.billImport, d.billExport, false, s.pulse.divisor⟩

/-- The dispatch as it is kept for reading (R53). -/
def lastOf (d : Dispatch) : LastDispatch :=
  ⟨d.finish, d.basis, d.billImport, d.billExport, d.quanta, d.sumQuanta, d.test⟩

/-- Taking a second (R41). -/
def takeSecond (y : Summary) (s : State) : State :=
  let d := dispatchOf s y
  { s with
    netting := { s.netting with
      accumulators := stepAccumulators s.netting.accumulators y
      testAccumulator :=
        if s.pulse.test then
          stepRemainder (testThreshold s.pulse.divisor) s.netting.testAccumulator y.sumEnergy
        else 0
      totals := gainTotals s.netting.totals d.quanta d.sumQuanta
      awaiting := true
      last := lastOf d }
    wires := { s.wires with
      toTariff := s.wires.toTariff ++ [d]
      dispatches := s.wires.dispatches ++ [d]
      handOffs := s.wires.handOffs ++ [handOffOf s y] } }

/-- A summary arrives at the netting unit: taken at once, or held (R41). -/
def nettingSummary (y : Summary) (s : State) : State :=
  if !s.netting.awaiting && s.netting.held.isEmpty then takeSecond y s
  else { s with netting := { s.netting with held := s.netting.held ++ [y] } }

/-- NETTING_SUMMARY_ARRIVAL (R41). -/
def execNettingSummaryArrival (s : State) : StepResult :=
  .next (match s.wires.toNetting with
    | [] => s
    | y :: ys => nettingSummary y { s with wires := { s.wires with toNetting := ys } })

/-- The pending basis takes force (R45). -/
def applyBasis (n : Netting) : Netting :=
  match n.pendingBasis with
  | some b => { n with basis := b, pendingBasis := none }
  | none => n

/-- The oldest held summary is taken (R42, step 3). -/
def takeHeld (s : State) : State :=
  match s.netting.held with
  | [] => s
  | y :: ys => takeSecond y { s with netting := { s.netting with held := ys } }

/-- An acknowledgment arrives at the netting unit; one that is not awaited is discarded (R42). -/
def takeAcknowledgment (a : Acknowledgment) (s : State) : State :=
  if s.netting.awaiting then
    let n := { s.netting with awaiting := false }
    takeHeld { s with netting := if a = .opened then applyBasis n else n }
  else s

/-- DISPATCH_ACKNOWLEDGMENT (R42). -/
def execDispatchAcknowledgment (s : State) : StepResult :=
  .next (match s.wires.acknowledgments with
    | [] => s
    | a :: rest => takeAcknowledgment a { s with wires := { s.wires with acknowledgments := rest } })

/-- TOTALS CLEAR: the billing accumulators and the totals become 0 (R52). -/
def clearTotals (n : Netting) : Netting := { n with accumulators := .zero, totals := .zero }

/-- An accepted write of the basis object (R44). -/
def setPendingBasis (b : Basis) (n : Netting) : Netting :=
  { n with pendingBasis := if b = n.basis then none else some b }

end Sys2Proof.Machine
end

