-- ==== Sys2Proof/Machine/Recording.lean ====
section
/-! DEFINITION. Chapter 4, the interval unit (R66 to R73), and chapter 6, the interval log (R98 to R113). -/

namespace Sys2Proof.Machine

/-! ## The open tally (R67, R69) -/

/-- Apply a pending length (R66). -/
def applyLength (u : IntervalUnit) : IntervalUnit :=
  match u.pendingLength with
  | some m => { u with length := m, pendingLength := none }
  | none => u

/-- Open a tally at a start time, with the length in force after any pending length, and flags (R67). -/
def openTally (start : Stamp) (flags : IntervalFlags) (u : IntervalUnit) : IntervalUnit :=
  let v := applyLength u
  { v with tally := .opened start v.length flags }

/-- The flags a second sets in the tally (R69). -/
def addFlags (f : IntervalFlags) (d : Dispatch) : IntervalFlags :=
  { f with
    clockUnset := f.clockUnset || !d.start.marked
    test := f.test || d.test
    substituted := f.substituted || decide (0 < sumNat d.substituted)
    lost := f.lost || decide (0 < sumNat d.lost) }

/-- A second added to the tally (R69). -/
def addSecond (t : Tally) (d : Dispatch) (e : EnvelopeStatus) : Tally :=
  { t with
    basis := t.basis <|> some d.basis
    importWh := t.importWh + d.billImport
    exportWh := t.exportWh + d.billExport
    net := .of fun φ => t.net.get φ + d.quanta.get φ
    substituted := addCounts t.substituted d.substituted
    lost := addCounts t.lost d.lost
    clipped := addCounts t.clipped d.clipped
    peakExport := max t.peakExport e.exported
    overSeconds := t.overSeconds + (if e.overLimit then 1 else 0)
    curtailSeconds := t.curtailSeconds + (if e.curtail then 1 else 0)
    flags := addFlags t.flags d
    seconds := t.seconds + 1 }

/-- Whether a second of day is an interval boundary under a length of m minutes (R66). -/
def onBoundary (m second : Nat) : Bool := second % (60 * m) == 0

/-- Whether a taken second closes the tally: its end is a boundary of the tally's length, or it carries a step
notice (R70). -/
def closesTally (t : Tally) (y : Summary) : Bool := onBoundary t.length y.finish.second || y.step.isSome

/-- The interval record of a tally closed at an end time (R71), with the flags of its closing. -/
def recordOf (t : Tally) (finish : Stamp) (stepped powerLost : Bool) : IntervalRecord :=
  { start := t.start, finish := finish, length := t.length, basis := t.basis
    importWh := t.importWh, exportWh := t.exportWh, net := t.net
    substituted := t.substituted, lost := t.lost, clipped := t.clipped
    peakExport := t.peakExport, overSeconds := t.overSeconds, curtailSeconds := t.curtailSeconds
    flags := { t.flags with
      short := t.flags.short || !onBoundary t.length t.start.second || !onBoundary t.length finish.second
      timeChanged := t.flags.timeChanged || stepped
      powerLost := t.flags.powerLost || powerLost } }

/-- The start of the tally opened after a closing, with its clock mark (R67): the step's new time, or the end of
the second, carried into the next day; the day wrap of R56 leaves the mark UNSET (notes/assumptions/13.md). -/
def nextTallyStart (y : Summary) : Stamp :=
  match y.step with
  | some t => markTime t true
  | none =>
    markTime (carryDay y.finish.day y.finish.second)
      (y.finish.marked && !dayWraps y.finish.day y.finish.second)

/-- The initial flags of the tally opened after a closing (R67). -/
def nextTallyFlags (y : Summary) : IntervalFlags :=
  { IntervalFlags.none with timeChanged := y.step.isSome }

/-- The second of a summary, a status and a dispatch is taken into the tally, and the tally is closed when it
ends there (R69, R70). -/
def takeJoined (y : Summary) (e : EnvelopeStatus) (d : Dispatch) (s : State) : State :=
  let t := addSecond s.interval.tally d e
  if closesTally t y then
    let r := recordOf t y.finish y.step.isSome false
    let u := openTally (nextTallyStart y) (nextTallyFlags y) { s.interval with tally := t }
    raise .intervalClosed { s with
      interval := u
      wires := { s.wires with
        records := s.wires.records ++ [r]
        acknowledgments := s.wires.acknowledgments ++ [.opened] } }
  else
    { s with
      interval := { s.interval with tally := t }
      wires := { s.wires with acknowledgments := s.wires.acknowledgments ++ [.taken] } }

/-- The second is taken when its summary, its status and its dispatch are all held (R68). -/
def joinSecond (s : State) : State :=
  match s.interval.summaries, s.interval.statuses, s.interval.dispatch with
  | y :: ys, e :: es, some d =>
    takeJoined y e d { s with interval := { s.interval with summaries := ys, statuses := es, dispatch := none } }
  | _, _, _ => s

/-- INTERVAL_SUMMARY_ARRIVAL (R68). -/
def execIntervalSummaryArrival (s : State) : StepResult :=
  .next (match s.wires.toInterval with
    | [] => s
    | y :: ys => joinSecond { s with
        interval := { s.interval with summaries := s.interval.summaries ++ [y] }
        wires := { s.wires with toInterval := ys } })

/-- ENVELOPE_STATUS_ARRIVAL (R68). -/
def execEnvelopeStatusArrival (s : State) : StepResult :=
  .next (match s.wires.statuses with
    | [] => s
    | e :: es => joinSecond { s with
        interval := { s.interval with statuses := s.interval.statuses ++ [e] }
        wires := { s.wires with statuses := es } })

/-- INTERVAL_DISPATCH_ARRIVAL (R68).  The unit holds at most one dispatch: the netting unit sends no second one
before the first is acknowledged (R41), so a dispatch waits on its way while one is held. -/
def execIntervalDispatchArrival (s : State) : StepResult :=
  .next (match s.wires.dispatches with
    | [] => s
    | d :: ds =>
      if s.interval.dispatch.isSome then s
      else joinSecond { s with
        interval := { s.interval with dispatch := some d }
        wires := { s.wires with dispatches := ds } })

/-- An accepted write of the interval length (R66). -/
def setPendingLength (m : Nat) (u : IntervalUnit) : IntervalUnit :=
  { u with pendingLength := if m = u.length then none else some m }

/-! ## The slot store (R98 to R101) -/

/-- The slots of the log (R98). -/
def logSlots : Nat := 2048

/-- The slots a record takes (R98). -/
def slotCount (r : IntervalRecord) : Nat := if hasQuality r then 2 else 1

/-- The slots that held records use (R98). -/
def slotsUsed (rs : List LogRecord) : Nat := (rs.map fun r => slotCount r.body).sum

/-- N at its limit: no further record is taken in (R99). -/
def sequenceLimit : Nat := 4294967296

/-- The removal of an intake: oldest records go until the needed slots are free (R100, stage 2).  The removed
records, oldest first, and the records left. -/
def evict (need : Nat) : List LogRecord → List LogRecord × List LogRecord
  | [] => ([], [])
  | r :: rs =>
    if slotsUsed (r :: rs) + need ≤ logSlots then ([], r :: rs)
    else (r :: (evict need rs).1, (evict need rs).2)

/-- The sequence of the oldest of some records, or N when there is none. -/
def oldestOr (n : Nat) : List LogRecord → Nat
  | [] => n
  | r :: _ => r.sequence

/-- Whether a removal moves a context: the record it would read next has been removed (R111). -/
def contextMoved (removed : List LogRecord) (c : Context) : Bool :=
  c.reading && removed.any fun r => decide (c.next ≤ r.sequence)

/-- A context after the removals of an intake (R110, R111). -/
def moveContext (removed : List LogRecord) (oldest : Nat) (c : Context) : Context :=
  if contextMoved removed c then
    { c with next := oldest
             gap := addSaturating 4294967295 c.gap (removed.filter fun r => decide (c.next ≤ r.sequence)).length }
  else c

/-- Whether a commit queue entry is the intake of one of some removed records (R101). -/
def entryRemoved (removed : List LogRecord) : CommitEntry → Bool
  | .intake n _ => removed.any fun r => r.sequence == n
  | .clear _ => false

/-- The commit queue after a removal: entries of removed records behind an earlier entry are dropped (R101). -/
def dropRemoved (removed : List LogRecord) : List CommitEntry → List CommitEntry
  | [] => []
  | e :: es => e :: es.filter fun x => !entryRemoved removed x

/-- The log is READY when its commit queue is empty (R101). -/
def logReady (l : Log) : Bool := l.queue.isEmpty

/-- The state of the log that a commit writes (R101). -/
def imageOf (l : Log) : LogImage := ⟨l.records, l.next⟩

/-- CONTEXT_GAP for the ports whose context was moved (R111). -/
def raiseGaps (removed : List LogRecord) (before : PerPort Context) (s : State) : State :=
  ports.foldl (fun t p => if contextMoved removed (before.get p) then raiseFor .contextGap p t else t) s

/-- The log takes a record in whole (R100); at the limit of N it is discarded (R99). -/
def takeRecord (b : IntervalRecord) (s : State) : State :=
  let l := s.log
  if sequenceLimit ≤ l.next then s
  else
    let removed := (evict (slotCount b) l.records).1
    let kept := (evict (slotCount b) l.records).2
    let placed : Log := { l with
      records := kept ++ [(⟨l.next, b⟩ : LogRecord)]
      next := l.next + 1
      contexts := .of fun p => moveContext removed (oldestOr l.next kept) (l.contexts.get p)
      queue := dropRemoved removed l.queue }
    raiseGaps removed l.contexts { s with
      log := { placed with queue := placed.queue ++ [.intake l.next (imageOf placed)] } }

/-- RECORD_INTAKE (R100).  While the store is RESTORING the log takes its restored values first (R114). -/
def execRecordIntake (s : State) : StepResult :=
  .next (match s.wires.records with
    | [] => s
    | b :: bs =>
      if Block.log ∈ s.store.waiting then s
      else takeRecord b { s with wires := { s.wires with records := bs } })

/-- What a commit entry makes durable (R101). -/
def entryImage : CommitEntry → LogImage
  | .intake _ i => i
  | .clear i => i

/-- Whether a commit entry is an intake, whose completion sends a checkpoint notice (R102). -/
def entryIntake : CommitEntry → Bool
  | .intake _ _ => true
  | .clear _ => false

/-- COMMIT_COMPLETE (R101, R102). -/
def execCommitComplete (s : State) : StepResult :=
  .next (match s.log.queue with
    | [] => s
    | e :: es =>
      { s with
        log := { s.log with queue := es, committed := entryImage e }
        wires := { s.wires with
          checkpointNotices := s.wires.checkpointNotices + (if entryIntake e then 1 else 0) } })

/-! ## Read contexts (R105 to R110) and LOG CLEAR (R112) -/

/-- The oldest held sequence, N on an empty log (R107). -/
def oldestSequence (l : Log) : Nat := oldestOr l.next l.records

/-- The newest held record. -/
def newestRecord (l : Log) : Option LogRecord := l.records.getLast?

/-- One more than the newest held sequence, N on an empty log (R105, R107). -/
def pastNewest (l : Log) : Nat := ((newestRecord l).map fun r => r.sequence + 1).getD l.next

/-- Replace a port's context. -/
def setContext (p : Port) (c : Context) (l : Log) : Log := { l with contexts := l.contexts.set p c }

/-- LOG START NEWEST's position: the newest held record, N on an empty log (R106). -/
def newestPosition (l : Log) : Nat := ((newestRecord l).map LogRecord.sequence).getD l.next

/-- The context that LOG START AT sets, unless the operand is refused (R107). -/
def startAt (l : Log) (n : Nat) : Option Context :=
  if n = 0 ∨ pastNewest l < n then none
  else if n < oldestSequence l then
    some ⟨true, oldestSequence l, addSaturating 4294967295 0 (oldestSequence l - n)⟩
  else some ⟨true, n, 0⟩

/-- The held record that a context reads next: the one of its next sequence, or the first after it when numbers were
passed over at a CHECKPOINT restore (R108, notes/assumptions/20.md). -/
def recordFrom (l : Log) (n : Nat) : Option LogRecord := l.records.find? fun r => decide (n ≤ r.sequence)

/-- LOG CLEAR on a READY log (R112). -/
def clearLog (l : Log) : Log :=
  { l with records := [], contexts := .all .idle, queue := l.queue ++ [.clear ⟨[], l.next⟩] }

end Sys2Proof.Machine
end

