-- ==== Sys2Proof/Machine/Billing.lean ====
section
/-! DEFINITION. Chapter 5: tariff registers, schedules and billing freezes (R76 to R96). -/

namespace Sys2Proof.Machine

/-! ## Bands (R79) -/

/-- The day type of a day under a schedule: the special-day list, otherwise the week table (R79, step 1). -/
def dayTypeAt (c : Schedule) (day : Nat) : Nat :=
  match c.special.find? fun e => e.day == day with
  | some e => e.dayType
  | none => c.week.get (weekdayOf day)

/-- The switch list of a day type; a schedule in force holds day types 0 to 3 only (R86). -/
def switchList (c : Schedule) (dayType : Nat) : List Switch :=
  if h : dayType < 4 then c.switches.get ⟨dayType, h⟩ else []

/-- The band of a switch list at a minute of day: the last entry at or before it, else the list's last entry,
else band 1 (R79, step 2). -/
def bandAt (ws : List Switch) (minute : Nat) : Nat :=
  match (ws.filter fun w => decide (w.minute ≤ minute)).getLast?, ws.getLast? with
  | some w, _ => w.band
  | none, some w => w.band
  | none, none => 1

/-- The band and day type in force at a time (R79). -/
def filingAt (c : Schedule) (t : Stamp) : Filing :=
  let y := dayTypeAt c t.day
  ⟨bandAt (switchList c y) (t.second / 60), y⟩

/-! ## Filing (R78) -/

/-- A band's register gains (R76, R78); bands are numbered 1 to 6. -/
def gainRegister (v : Vector Nat 6) (band gain : Nat) : Vector Nat 6 :=
  if h : 1 ≤ band ∧ band ≤ 6 then v.set (band - 1) (addWh (v.get ⟨band - 1, by omega⟩) gain) (by omega) else v

/-- Stage 1 of a dispatch: filing, unless its test flag is SET (R78). -/
def fileDispatch (d : Dispatch) (u : Tariff) : Tariff :=
  if d.test then u
  else
    let f := filingAt u.active d.start
    { u with
      registers := ⟨gainRegister u.registers.imported f.band d.billImport,
                    gainRegister u.registers.exported f.band d.billExport⟩
      lastFiling := some f }

/-! ## Freezes (R90 to R94) -/

/-- The most freeze records held (R90). -/
def freezeListLimit : Nat := 12

/-- The freeze number that follows another; 4,294,967,295 is followed by 1 (R90). -/
def followingNumber (n : Nat) : Nat := if 4294967295 ≤ n then 1 else n + 1

/-- A freeze: its record goes to the front of the list, the oldest beyond 12 is removed, and FREEZE_TAKEN is
raised (R90). -/
def takeFreeze (number : Nat) (cause : FreezeCause) (scheduled : Option Nat) (t : Stamp) (s : State) : State :=
  let r : FreezeRecord :=
    { number := number, time := t, cause := cause, scheduledDay := scheduled
      registers := s.tariff.registers
      sumImport := s.netting.totals.sumImport, sumExport := s.netting.totals.sumExport }
  raise .freezeTaken { s with tariff := { s.tariff with
    freezes := (r :: s.tariff.freezes).take freezeListLimit } }

/-- A freeze with the next freeze number, which then rises (R90). -/
def takeNumberedFreeze (cause : FreezeCause) (scheduled : Option Nat) (t : Stamp) (s : State) : State :=
  let s' := takeFreeze s.tariff.nextFreeze cause scheduled t s
  { s' with tariff := { s'.tariff with nextFreeze := followingNumber s.tariff.nextFreeze } }

/-- A pending command freeze is taken (R91). -/
def takeCommandFreeze (d : Dispatch) (s : State) : State :=
  match s.tariff.pendingFreeze with
  | some n =>
    let s' := takeFreeze n .command none d.finish s
    { s' with tariff := { s'.tariff with pendingFreeze := none } }
  | none => s

/-- The freeze reference against which a second is compared: one that is NONE is first fixed from the second's
start (R93, step 1). -/
def referenceFor (u : Tariff) (d : Dispatch) : Nat :=
  u.freezeReference.getD ((latestFreezeDay u.freezeDay d.start.day).getD 0)

/-- The day of the scheduled freeze that is due at a second, if one is (R93, step 2). -/
def dueFreezeDay (u : Tariff) (d : Dispatch) : Option Nat :=
  (latestFreezeDay u.freezeDay (momentOf d.finish).day).filter fun day => decide (referenceFor u d < day)

/-- A scheduled freeze is considered when F is above 0 and the second's mark is SET (R93). -/
def takeScheduledFreeze (d : Dispatch) (s : State) : State :=
  if 0 < s.tariff.freezeDay ∧ d.start.marked then
    match dueFreezeDay s.tariff d with
    | some day =>
      let s' := takeNumberedFreeze .scheduled (some day) d.finish s
      { s' with tariff := { s'.tariff with freezeReference := some day } }
    | none => { s with tariff := { s.tariff with freezeReference := some (referenceFor s.tariff d) } }
  else s

/-! ## Activation (R89) -/

/-- Whether the pending schedule is due at a dispatch (R89). -/
def activationDue (u : Tariff) (d : Dispatch) : Bool :=
  match u.pendingState, u.activation with
  | .armed, some a =>
    decide (a.day * 86400 + a.minute * 60 ≤ instantSeconds (momentOf d.finish)) && d.start.marked
  | _, _ => false

/-- A due schedule is activated, after an ACTIVATION freeze when that option is ON (R89, R94). -/
def activateSchedule (d : Dispatch) (s : State) : State :=
  if activationDue s.tariff d then
    let s' := if s.tariff.freezeOnActivation then takeNumberedFreeze .activation none d.finish s else s
    raise .scheduleActivated { s' with tariff := { s'.tariff with
      active := s'.tariff.pending, pendingState := .empty, activation := none } }
  else s

/-- The tariff unit takes a dispatch whole (R77). -/
def takeTariffDispatch (d : Dispatch) (s : State) : State :=
  activateSchedule d (takeScheduledFreeze d (takeCommandFreeze d
    { s with tariff := fileDispatch d s.tariff }))

/-- TARIFF_DISPATCH (R77). -/
def execTariffDispatch (s : State) : StepResult :=
  .next (match s.wires.toTariff with
    | [] => s
    | d :: ds => takeTariffDispatch d { s with wires := { s.wires with toTariff := ds } })

/-! ## The pending schedule and the staging claim (R81 to R88) -/

/-- A port takes the claim (R83). -/
def takeClaim (p : Port) (u : Tariff) : Tariff :=
  { u with
    claim := some p
    pending := if u.pendingState = .empty then u.active else u.pending
    pendingState := .editing
    activation := none }

/-- A holder that loses its SCHEDULE write rights loses the claim (R84). -/
def loseClaim (p : Port) (s : State) : State :=
  if s.tariff.claim = some p then
    raiseFor .claimLost p { s with tariff := { s.tariff with claim := none } }
  else s

/-- Where a validation of a pending record fails: the table code of R175 and the index of the entry. -/
structure ScheduleFault where
  table : Nat
  index : Nat
  deriving DecidableEq, Repr

/-- The index of the first entry that fails a test against the entry before it. -/
def firstBad {α : Type} (ok : Option α → α → Bool) : Option α → List α → Nat → Option Nat
  | _, [], _ => none
  | before, x :: xs, i => if ok before x then firstBad ok (some x) xs (i + 1) else some i

/-- A special-day entry of a valid record (R86). -/
def specialOk (before : Option SpecialDay) (e : SpecialDay) : Bool :=
  decide (e.dayType ≤ 3) && before.all fun b => decide (b.day < e.day)

/-- A switch list entry of a valid record (R86). -/
def switchOk (before : Option Switch) (w : Switch) : Bool :=
  decide (w.minute ≤ 1439) && decide (1 ≤ w.band ∧ w.band ≤ 6) && before.all fun b => decide (b.minute < w.minute)

/-- The first fault of the switch list of a day type (R86); its table code is 3 + the day type (R175). -/
def switchFault (c : Schedule) (t : Fin 4) : Option ScheduleFault :=
  (firstBad switchOk none (c.switches.get t) 0).map fun i => ⟨3 + t.val, i⟩

/-- The first fault of a pending record, table by table; none when it is valid (R86). -/
def scheduleFault (c : Schedule) : Option ScheduleFault :=
  ((firstBad (fun _ t => decide (t ≤ 3)) none c.week.toList 0).map fun i => ⟨1, i⟩) <|>
    ((firstBad specialOk none c.special 0).map fun i => ⟨2, i⟩) <|>
    switchFault c 0 <|> switchFault c 1 <|> switchFault c 2 <|> switchFault c 3

/-- The pending schedule is ARMED (R86). -/
def armSchedule (a : Activation) (u : Tariff) : Tariff :=
  { u with activation := some a, pendingState := .armed, claim := none }

/-- DISARM (R87). -/
def disarmSchedule (u : Tariff) : Tariff :=
  if u.pendingState = .armed then { u with activation := none, pendingState := .editing } else u

/-- DISCARD (R88). -/
def discardSchedule (u : Tariff) : Tariff :=
  { u with pendingState := .empty, activation := none, claim := none }

/-- A FREEZE accepted: it is announced with the next freeze number, which rises (R91). -/
def announceFreeze (u : Tariff) : Tariff :=
  { u with pendingFreeze := some u.nextFreeze, nextFreeze := followingNumber u.nextFreeze }

/-- A write of the scheduled freeze day (R92). -/
def setFreezeDay (f : Nat) (u : Tariff) : Tariff :=
  if f = u.freezeDay then u else { u with freezeDay := f, freezeReference := none }

/-! ## Table entries (R80, R85, R164, R175) -/

/-- A packed special-day entry (R175). -/
def packSpecial (e : SpecialDay) : Nat := e.day * 65536 + e.dayType

/-- A packed switch entry (R175). -/
def packSwitch (w : Switch) : Nat := w.minute * 65536 + w.band

/-- The copy of the schedule record that a cursor names (R80). -/
def scheduleCopy (u : Tariff) : ScheduleCopy → Schedule
  | .active => u.active
  | .pending => u.pending

/-- Whether a copy reads EMPTY: the PENDING copy while the pending state is EMPTY (R80). -/
def copyEmpty (u : Tariff) : ScheduleCopy → Bool
  | .active => false
  | .pending => u.pendingState = .empty

/-- The packed entry of a week table (R175). -/
def weekEntry (c : Schedule) (i : Nat) : Option Nat := c.week.toList[i]?

/-- Replace an entry of a list, or append at its count; nothing beyond it (R85, Table 5-4). -/
def putEntry {α : Type} (xs : List α) (i : Nat) (x : α) : Option (List α) :=
  if i < xs.length then some (xs.set i x) else if i = xs.length then some (xs ++ [x]) else none

/-- A packed value written to an entry of the pending schedule; nothing when it is beyond its field width or
above the list's count (R85, R175). -/
def writeEntry (c : Schedule) (cursor : Cursor) (w : Word) : Option Schedule :=
  let high := w.toNat / 65536
  let low := w.toNat % 65536
  match cursor with
  | .week _ i =>
    if h : i < 7 ∧ w.toNat ≤ 255 then some { c with week := c.week.set i w.toNat h.1 } else none
  | .special _ i =>
    if low ≤ 255 then (putEntry c.special i ⟨high, low⟩).map fun l => { c with special := l } else none
  | .switch t _ i =>
    if low ≤ 255 then
      (putEntry (c.switches.get t) i ⟨high, low⟩).map fun l => { c with switches := c.switches.set t.val l t.isLt }
    else none
  | _ => none

/-- Cut a list to a count not above its present one (R85, Table 5-4). -/
def cutList {α : Type} (xs : List α) (w : Word) : Option (List α) :=
  if w.toNat ≤ xs.length then some (xs.take w.toNat) else none

end Sys2Proof.Machine
end

