-- ==== Sys2Proof/Machine/Curtailment.lean ====
section
/-! DEFINITION. Chapter 7: the export envelope monitor (R115 to R130). -/

namespace Sys2Proof.Machine

/-! ## Term and limits (R116 to R121) -/

/-- The term value in force: Lu while IN_FORCE, Lf while LAPSED (R121). -/
def termValue (e : Envelope) : Limit := if e.term.inForce then e.term.limit else e.fallback

/-- The effective limit L (R121). -/
def effectiveLimit (e : Envelope) : Limit := lowerLimit (termValue e) e.site

/-- The export power E of a second (R116). -/
def exportPower (y : Summary) : Nat :=
  if sumMeanPower y.sum y.sets < 0 then (sumMeanPower y.sum y.sets).natAbs else 0

/-- The headroom L − E; 100,001 while L is UNLIMITED (R121). -/
def headroom (e : Envelope) : Int :=
  match effectiveLimit e with
  | .watts l => (l : Int) - e.last.exported
  | .unlimited => 100001

/-- The term's countdown at a summary (R118). -/
def countdownTerm (t : Term) : Term :=
  if t.inForce then { t with validity := t.validity - 1, inForce := decide (1 < t.validity) } else t

/-- Whether the term lapses at the next summary (R118). -/
def termLapses (t : Term) : Bool := t.inForce && decide (t.validity ≤ 1)

/-! ## The monitor (R122 to R125) -/

/-- E is at or below L − B, formed as a signed number (Table 7-2, Note 2). -/
def belowRelease (limit band exported : Nat) : Bool := decide ((exported : Int) ≤ (limit : Int) - (band : Int))

/-- The normal evaluation from CURTAILING (R125). -/
def evaluateCurtailing (band hold limit exported : Nat) (cause : CurtailCause) : Monitor :=
  if belowRelease limit band exported then
    if hold ≤ 1 then .clear else ⟨.holding, cause, 0, 1⟩
  else ⟨.curtailing, cause, 0, 0⟩

/-- The normal evaluation by state (R125, Table 7-2). -/
def evaluateNormal (grace band hold limit exported : Nat) (m : Monitor) : Monitor :=
  match m.state with
  | .clear =>
    if limit < exported then
      if grace ≤ 1 then ⟨.curtailing, .limit, 0, 0⟩ else ⟨.overLimit, .none, 1, 0⟩
    else .clear
  | .overLimit =>
    if limit < exported then
      if grace ≤ m.overCount + 1 then ⟨.curtailing, .limit, 0, 0⟩ else ⟨.overLimit, .none, m.overCount + 1, 0⟩
    else .clear
  | .curtailing => evaluateCurtailing band hold limit exported m.cause
  | .holding =>
    if belowRelease limit band exported then
      if hold ≤ m.holdCount + 1 then .clear else ⟨.holding, m.cause, 0, m.holdCount + 1⟩
    else ⟨.curtailing, m.cause, 0, 0⟩

/-- Whether a summary reports a phase in use as LOST (R123). -/
def sensingFault (y : Summary) : Bool := phases.any fun φ => y.quality.get φ == .lost

/-- A sensing fault that has ended: the monitor resumes from CURTAILING with cause LIMIT (R124). -/
def resumeFault (m : Monitor) : Monitor :=
  if m.state = .curtailing ∧ m.cause = .sensing then { m with cause := .limit } else m

/-- Stage 4: the monitor moves by L, E and the phase qualities (R122 to R125). -/
def evaluateMonitor (e : Envelope) (y : Summary) (m : Monitor) : Monitor :=
  match effectiveLimit e with
  | .unlimited => .clear
  | .watts l =>
    if sensingFault y then ⟨.curtailing, .sensing, 0, 0⟩
    else evaluateNormal e.grace e.band e.hold l (exportPower y) (resumeFault m)

/-- The line is active in CURTAILING and HOLDING (R127). -/
def lineActive (m : Monitor) : Bool := m.state = .curtailing || m.state = .holding

/-- Whether a second is over the limit: L is a number of watts and E > L (R128). -/
def overLimit (l : Limit) (exported : Nat) : Bool :=
  match l with
  | .watts w => decide (w < exported)
  | .unlimited => false

/-- The envelope after a summary: stages 1 to 5 and 7 (R115). -/
def envelopeAfter (e : Envelope) (y : Summary) : Envelope :=
  let e1 := { e with term := countdownTerm e.term }
  let m := evaluateMonitor e1 y e.monitor
  { e1 with monitor := m, line := lineActive m, last := ⟨exportPower y, y.finish, true⟩ }

/-- The envelope status of a second (R128), from the envelope after it. -/
def statusOf (after : Envelope) (y : Summary) : EnvelopeStatus :=
  ⟨y.start, y.finish, exportPower y, overLimit (effectiveLimit after) (exportPower y), after.line⟩

/-- The monitor takes a summary whole, in seven stages (R115). -/
def takeEnvelopeSummary (y : Summary) (s : State) : State :=
  let after := envelopeAfter s.envelope y
  raiseIf (s.envelope.line && !after.line) .curtailOff
    (raiseIf (!s.envelope.line && after.line) .curtailOn
      (raiseIf (termLapses s.envelope.term) .limitLapsed
        { s with envelope := after, wires := { s.wires with
            statuses := s.wires.statuses ++ [statusOf after y] } }))

/-- The oldest summary on its way to the monitor is taken. -/
def envelopeSummary (s : State) : State :=
  match s.wires.toEnvelope with
  | [] => s
  | y :: ys => takeEnvelopeSummary y { s with wires := { s.wires with toEnvelope := ys } }

/-- ENVELOPE_SUMMARY_ARRIVAL (R115). -/
def execEnvelopeSummaryArrival (s : State) : StepResult := .next (envelopeSummary s)

/-- TERM_LAPSE (R118): the summary at whose countdown the remaining validity reaches 0. -/
def execTermLapse (s : State) : StepResult :=
  .next (if !s.wires.toEnvelope.isEmpty && termLapses s.envelope.term then envelopeSummary s else s)

/-- Whether the next summary trips the monitor: the over count reaches G, in its first second when G is 1
(R125). -/
def graceExpires (s : State) : Bool :=
  (s.envelope.monitor.state == .overLimit || s.envelope.monitor.state == .clear) &&
    (match s.wires.toEnvelope with
     | [] => false
     | y :: _ => (envelopeAfter s.envelope y).monitor == ⟨.curtailing, .limit, 0, 0⟩)

/-- GRACE_EXPIRY (R125): the summary at which the over count reaches G and the monitor trips. -/
def execGraceExpiry (s : State) : StepResult := .next (if graceExpires s then envelopeSummary s else s)

/-- Whether the next summary releases the monitor while L is limited: the hold count reaches H, in its first
second when H is 1 (R125). -/
def holdExpires (s : State) : Bool :=
  lineActive s.envelope.monitor &&
    (match s.wires.toEnvelope with
     | [] => false
     | y :: _ =>
       (envelopeAfter s.envelope y).monitor == .clear &&
         effectiveLimit (envelopeAfter s.envelope y) != .unlimited)

/-- HOLD_EXPIRY (R125): the summary at which the hold count reaches H and the monitor is released. -/
def execHoldExpiry (s : State) : StepResult := .next (if holdExpires s then envelopeSummary s else s)

/-! ## Settings (R117, R119, R120, R126, R127) -/

/-- The term that SET TERM sets (R117). -/
def termSet (limit validity : Word) : Term :=
  { inForce := true, limit := limitOperand limit, validity := clampNat 60 86400 validity }

/-- The level of the CURT pin: the active level while the line is active, its opposite otherwise (R127). -/
def curtHigh (s : State) : Bool := s.envelope.line == s.envelope.activeHigh

/-- The monitor and the line as DORMANT leaves them (R130). -/
def clearEnvelope (e : Envelope) : Envelope := { e with monitor := .clear, line := false }

end Sys2Proof.Machine
end

