-- ==== Sys2Proof/Machine/Supply.lean ====
section
/-! DEFINITION. Chapter 9: the nonvolatile store (R144 to R155), and with it the engine's part of leaving and
entering RUNNING (R156, R168, R173). -/

namespace Sys2Proof.Machine

/-! ## Checkpoint (R150) -/

/-- The other checkpoint copy. -/
def otherCopy : CopyName → CopyName
  | .x => .y
  | .y => .x

/-- A checkpoint copy, when its check is correct. -/
def copyOf (r : Store) : CopyName → Option CheckpointCopy
  | .x => r.copyX
  | .y => r.copyY

/-- Replace a checkpoint copy. -/
def setCopy (n : CopyName) (c : Option CheckpointCopy) (r : Store) : Store :=
  match n with
  | .x => { r with copyX := c }
  | .y => { r with copyY := c }

/-- The generation that follows another (R150). -/
def nextGeneration (g : Nat) : Nat := (g + 1) % 4294967296

/-- The copy that holds the valid checkpoint (R150).  Two valid copies of which neither follows the other have
no rule: the choice is left open (notes/assumptions/4.md). -/
def validCopy (r : Store) : Option CopyName :=
  match r.copyX, r.copyY with
  | some x, some y =>
    if x.generation = nextGeneration y.generation then some .x
    else if y.generation = nextGeneration x.generation then some .y
    else if Config.ungovernedCopyIsX x.generation y.generation then some .x else some .y
  | some _, none => some .x
  | none, some _ => some .y
  | none, none => none

/-- The valid checkpoint's contents (R150). -/
def validCheckpoint (r : Store) : Option CheckpointContents :=
  ((validCopy r).bind (copyOf r)).map CheckpointCopy.contents

/-- The copy that the next checkpoint write goes to (R150). -/
def writeTarget (r : Store) : CopyName := ((r.lastCopy <|> r.found).map otherCopy).getD .x

/-- Begin a write of checkpoint contents: the copy written has no correct check until the write ends (R150,
R151). -/
def beginCopy (c : CheckpointContents) (r : Store) : Store :=
  let n := writeTarget r
  let g := ((copyOf r (otherCopy n)).map fun o => nextGeneration o.generation).getD 1
  { setCopy n none r with copyWrite := some ⟨n, ⟨c, g⟩⟩ }

/-- The checkpoint's values as they stand (Table 9-3). -/
def checkpointOf (s : State) : CheckpointContents :=
  ⟨s.tariff.registers, s.tariff.nextFreeze, s.tariff.freezeReference, s.netting.totals, s.log.next⟩

/-- CHECKPOINT_NOTICE (R150), in every store state that takes notices.  In RESTORING the values are those that the
owners hold at that moment, restored or not (notes/assumptions/38.md). -/
def execCheckpointNotice (s : State) : StepResult :=
  .next (if s.wires.checkpointNotices = 0 then s
    else
      let s' := { s with wires := { s.wires with checkpointNotices := s.wires.checkpointNotices - 1 } }
      if s.store.copyWrite.isSome then
        { s' with store := { s.store with pendingCopy := some (checkpointOf s) } }
      else { s' with store := beginCopy (checkpointOf s) s.store })

/-- A checkpoint copy write ends (R150). -/
def endCopy (r : Store) : Store :=
  match r.copyWrite with
  | none => r
  | some w =>
    let r' := { setCopy w.target (some w.copy) r with lastCopy := some w.target, copyWrite := none }
    match r.pendingCopy with
    | none => r'
    | some c => beginCopy c { r' with pendingCopy := none }

/-- CHECKPOINT_WRITE_END (R150). -/
def execCheckpointWriteEnd (s : State) : StepResult := .next { s with store := endCopy s.store }

/-! ## Leaving RUNNING (R145) -/

/-- A port's answers when the store leaves RUNNING: a waiting FULL answer not yet begun is discarded; the answer
being sent, at the head, runs to its end (R158, R173). -/
def keepBegun : List Answer → List Answer
  | [] => []
  | a :: rest => a :: rest.filter fun x => match x with
    | .full _ => false
    | .executed _ _ => true

/-- The engine when the store leaves RUNNING: queues discarded, front ends in HUNT (R156, R173). -/
def stopEngine (g : Engine) : Engine :=
  { g with queues := .all [], frontEnds := .all .hunt, outbox := .of fun p => keepBegun (g.outbox.get p) }

/-- On entering SAVING (R145). -/
def enterSaving (cause : SaveCause) (s : State) : State :=
  stopMeasuring { s with
    store := { s.store with state := .saving, cause := cause, write := .idle }
    assembly := stopSensing s.assembly
    engine := stopEngine s.engine }

/-! ## Restoring (R152) -/

/-- The restore kind (R152). -/
def restoreKind (r : Store) : RestoreKind :=
  if r.mark ∧ r.image.isSome then .warm else if (validCheckpoint r).isSome then .checkpoint else .cold

/-- The durable changes of a COLD restore to every persistent setting, schedule, the freeze list, the slot
store, the rights map and the enable sets, and to the link counters (R152).  A claim ends with the pending record it
was held on (R97). -/
def coldDurables (s : State) : State :=
  { s with
    identity := ⟨0, 0⟩
    assembly := { s.assembly with
      phases := .three
      links := .of fun φ =>
        { s.assembly.links.get φ with configuredClass := 2, invalidFrames := 0, lateFrames := 0 } }
    metrology := { s.metrology with calibration := .all .cold, creepThreshold := 50 }
    netting := { s.netting with basis := .vector, pendingBasis := none }
    interval := { s.interval with length := 15, pendingLength := none }
    tariff := { s.tariff with
      active := .cold, pending := .cold, pendingState := .empty, activation := none, claim := none, freezes := []
      freezeDay := 0, freezeOnActivation := false }
    log := { s.log with committed := .cold }
    envelope := { s.envelope with
      fallback := .watts 5000, grace := 5, band := 200, hold := 30, activeHigh := true }
    pulse := { s.pulse with
      source := .absolute, activeWidth := 40, gapWidth := 40, divisor := 100, timeout := 30 }
    store := { s.store with copyX := none, copyY := none }
    engine := { s.engine with rights := .cold, enables := .all 0#15 } }

/-- The ten blocks. -/
def blocks : List Block :=
  [.assembly, .metrology, .netting, .timeBase, .interval, .tariff, .log, .envelope, .pulse, .engine]

/-- The restore notice (R153). -/
def noticeFor (r : Store) : RestoreNotice :=
  { kind := restoreKind r, cause := r.cause
    image := if restoreKind r = .warm then r.image else none
    checkpoint := if restoreKind r = .checkpoint then validCheckpoint r else none
    reading := r.backup }

/-- On entering RESTORING: latches and queues are cleared, the kind is chosen, the durable changes are made, and
every block is sent a restore notice (R152, R153). -/
def enterRestoring (s : State) : State :=
  let n := noticeFor s.store
  let s' := if n.kind = .cold then coldDurables s else s
  setLines { s' with
    store := { s'.store with
      state := .restoring, mark := false, write := .idle, lastCopy := none, found := validCopy s.store
      notice := n, waiting := blocks }
    engine := { s'.engine with latches := .all 0#15, queues := .all [] } }

/-- On entering DORMANT: outputs inactive, the monitor CLEAR, the generator IDLE, and sending stopped (R130, R143,
R148, R158). -/
def enterDormant (s : State) : State :=
  setLines { s with
    store := { s.store with state := .dormant, write := .idle }
    envelope := clearEnvelope s.envelope
    pulse := { s.pulse with generator := .idle, period := 0, pendingCount := 0 }
    engine := { s.engine with outbox := .all [], state := .idle } }

/-! ## The supply (R144) -/

/-- SUPOK_FALL (R144). -/
def execSupokFall (s : State) : StepResult :=
  let s' := { s with store := { s.store with supok := false } }
  .next (if s.store.state = .running then enterSaving .supply s' else s')

/-- SUPOK_RISE (R144). -/
def execSupokRise (s : State) : StepResult :=
  let s' := { s with store := { s.store with supok := true } }
  .next (if s.store.state = .dormant then enterRestoring s' else s')

/-- POWER_UP (R144): the store starts in DORMANT, and goes on to RESTORING when SUPOK is high. -/
def execPowerUp (supokHigh : Bool) (s : State) : StepResult :=
  .next (if s.store.state = .unpowered then
      let s' := enterDormant { s with store := { s.store with supok := supokHigh, cause := .supply } }
      if supokHigh then enterRestoring s' else s'
    else s)

/-! ## The save (R146, R147, R155) -/

/-- The save image's values as they stand (Table 9-2). -/
def imageNow (s : State) : SaveImage :=
  { accumulators := s.netting.accumulators, totals := s.netting.totals, registers := s.tariff.registers
    nextFreeze := s.tariff.nextFreeze, pendingFreeze := s.tariff.pendingFreeze
    freezeReference := s.tariff.freezeReference
    start := s.timeBase.start, clockSet := s.timeBase.set, slew := s.timeBase.slew, step := s.timeBase.step
    tally := s.interval.tally, term := s.envelope.term }

/-- The five conditions of R146, with the summary of a second that still closes in SAVING counted among those that
are on their way (R35, R54, notes/assumptions/15.md). -/
def atRest (s : State) : Bool :=
  (noticeAhead s).isNone &&
  s.netting.held.isEmpty && !s.netting.awaiting &&
    s.wires.toTariff.isEmpty &&
    logReady s.log &&
    s.store.copyWrite.isNone && s.store.pendingCopy.isNone &&
    (s.wires.toNetting.isEmpty && s.wires.toEnvelope.isEmpty && s.wires.toInterval.isEmpty &&
      s.wires.records.isEmpty && s.wires.checkpointNotices == 0)

/-- Whether the store begins its save now: SAVING, at rest, and not begun. -/
def saveDue (s : State) : Bool := s.store.state == .saving && s.store.write == .idle && atRest s

/-- SAVE_START (R146, R155): the image write begins, or for CLEAR_ALL both copies are set invalid. -/
def execSaveStart (s : State) : StepResult :=
  .next (if saveDue s then
      if s.store.cause = .clearAll then
        { s with store := { s.store with copyX := none, copyY := none, write := .clearing } }
      else { s with store := { s.store with image := none, write := .image (imageNow s) } }
    else s)

/-- The store with its save complete: image and mark written, or for CLEAR_ALL neither (R146, R155). -/
def finishSave (r : Store) : Store :=
  match r.write with
  | .image i => { r with image := some i, mark := true, write := .idle }
  | _ => { r with write := .idle }

/-- SAVE_COMPLETE (R146): on to RESTORING or DORMANT by SUPOK (Table 9-4). -/
def execSaveComplete (s : State) : StepResult :=
  .next (if s.store.state = .saving ∧ s.store.write ≠ .idle then
      let s' := { s with store := finishSave s.store }
      if s.store.supok then enterRestoring s' else enterDormant s'
    else s)

/-! ## Losses (R148, R149, R151) -/

/-- The part without VDD: every volatile value is lost and reads as it does after a COLD restore until the next
restore sets it (notes/assumptions/9.md); what is nonvolatile, the backup domain, and the levels of the pins
stay as they were. -/
def losePower (s : State) : State :=
  { State.reset with
    identity := s.identity
    assembly := { Assembly.cold with
      phases := s.assembly.phases
      links := .of fun φ =>
        { Link.cold with
          configuredClass := (s.assembly.links.get φ).configuredClass
          invalidFrames := (s.assembly.links.get φ).invalidFrames
          lateFrames := (s.assembly.links.get φ).lateFrames } }
    metrology := { Metrology.cold with
      calibration := s.metrology.calibration, creepThreshold := s.metrology.creepThreshold }
    netting := { Netting.cold with basis := s.netting.basis, pendingBasis := s.netting.pendingBasis }
    interval := { IntervalUnit.cold with length := s.interval.length, pendingLength := s.interval.pendingLength }
    tariff := { Tariff.cold with
      active := s.tariff.active, pending := s.tariff.pending, pendingState := s.tariff.pendingState
      activation := s.tariff.activation, freezes := s.tariff.freezes, freezeDay := s.tariff.freezeDay
      freezeOnActivation := s.tariff.freezeOnActivation }
    log := { Log.cold with committed := s.log.committed }
    envelope := { Envelope.cold with
      fallback := s.envelope.fallback, grace := s.envelope.grace, band := s.envelope.band
      hold := s.envelope.hold, activeHigh := s.envelope.activeHigh }
    pulse := { Pulse.cold with
      source := s.pulse.source, activeWidth := s.pulse.activeWidth, gapWidth := s.pulse.gapWidth
      divisor := s.pulse.divisor, timeout := s.pulse.timeout }
    store := { Store.cold with
      state := .unpowered, image := s.store.image, mark := s.store.mark
      copyX := s.store.copyX, copyY := s.store.copyY, backup := s.store.backup, supok := s.store.supok }
    engine := { Engine.cold with
      rights := s.engine.rights, calen := s.engine.calen, enables := s.engine.enables, latches := .all 0#15 }
    freeCount := s.freeCount
    pending := s.pending }

/-- A CLEAR ALL's save cut after copy X was set invalid (R155). -/
def cutBetweenCopies (s : State) : State :=
  if saveDue s && s.store.cause == .clearAll then { s with store := { s.store with copyX := none } } else s

/-- A restore cut before the completion mark has been erased: no block has taken its notice, and the mark stands as
the store found it.  Only a WARM restore finds one; the image has not been touched (R151, R152). -/
def cutBeforeErasure (s : State) : State :=
  if s.store.state = .restoring ∧ s.store.notice.kind = .warm ∧ blocks.all (s.store.waiting.contains ·) then
    { s with store := { s.store with mark := true } }
  else s

/-- What the moment of a failure of VDD leaves in the nonvolatile store (R151, R155). -/
def applyCut : PowerCut → State → State
  | .plain, s => s
  | .betweenCopies, s => cutBetweenCopies s
  | .beforeErasure, s => cutBeforeErasure s

/-- Whether VDD can fail with the save defeated: in every powered state but DORMANT (R151). -/
def savePending (st : StoreState) : Bool := st = .running || st = .saving || st = .restoring

/-- SAVE_DEFEATED (R151). -/
def execSaveDefeated (cut : PowerCut) (s : State) : StepResult :=
  .next (if savePending s.store.state then losePower (applyCut cut s) else s)

/-- VDD_LOSS (R148): VDD falls away in DORMANT. -/
def execVddLoss (s : State) : StepResult := .next (if s.store.state = .dormant then losePower s else s)

/-- The backup domain comes back with its clock INVALID and every link counter at 0 (R149). -/
def resetBackup (s : State) : State :=
  { s with
    assembly := clearCounters s.assembly
    store := { s.store with backup := ⟨⟨0, 0⟩, false, false⟩ } }

/-- BACKUP_DOMAIN_LOSS (R149): both VDD and VBK are lost, so whatever ran on VDD is lost with it. -/
def execBackupDomainLoss (s : State) : StepResult :=
  .next (resetBackup (if s.store.state = .unpowered then s else losePower s))

/-- The backup clock one second on (R149). -/
def tickBackup (b : BackupClock) : BackupClock :=
  { b with
    time := carryDay b.time.day (b.time.second + 1)
    set := b.set && !dayWraps b.time.day (b.time.second + 1) }

/-- BACKUP_CLOCK_TICK (R149): outside RUNNING the clock advances on its own crystal. -/
def execBackupClockTick (s : State) : StepResult :=
  .next (if s.store.state = .running then s
    else { s with store := { s.store with backup := tickBackup s.store.backup } })

end Sys2Proof.Machine
end

