-- ==== Sys2Proof/Machine/Restores.lean ====
section
/-! DEFINITION. How each block sets itself from the restore notice (Tables 1-5, 2-6, 3-5, 4-7, 4-8, 5-6, 6-4,
7-3, 8-3 and 10-6, and R131), and the completion of the restore (R153). -/

namespace Sys2Proof.Machine

/-! ## The restored clock (R74) -/

/-- The saved meter time of a notice: the start of the abandoned running second (R73, R153). -/
def savedTime (n : RestoreNotice) : Instant := (n.image.map SaveImage.start).getD ⟨0, 0⟩

/-- The end time of the newest of some records, carried into the next day, or day 0, second 0 (Table 4-7). -/
def newestEnd (rs : List LogRecord) : Instant :=
  match rs.getLast? with
  | some r => carryDay r.body.finish.day r.body.finish.second
  | none => ⟨0, 0⟩

/-- The restored meter time (Table 4-7); the log holds the records of its last completed commit (Table 6-4). -/
def restoredTime (n : RestoreNotice) (l : LogImage) : Instant :=
  match n.kind with
  | .cold => ⟨0, 0⟩
  | .warm => if n.reading.valid then n.reading.time else savedTime n
  | .checkpoint => if n.reading.valid then n.reading.time else newestEnd l.records

/-- The restored clock state (Table 4-7). -/
def restoredSet (n : RestoreNotice) : Bool := n.kind != .cold && n.reading.valid && n.reading.set

/-- The restored meter time less the saved meter time, in seconds (R131, R153). -/
def elapsed (n : RestoreNotice) (l : LogImage) : Int :=
  (instantSeconds (restoredTime n l) : Int) - (instantSeconds (savedTime n) : Int)

/-! ## The blocks -/

/-- A block takes the restore notice: it sets itself, and is no longer waited for (R153).  Outside RESTORING, and
for a block that has taken its notice, there is no notice to take. -/
def takeNotice (b : Block) (f : State → State) (s : State) : State :=
  if s.store.state = .restoring ∧ b ∈ s.store.waiting then
    let s' := f s
    { s' with store := { s'.store with waiting := s.store.waiting.filter fun x => x != b } }
  else s

/-- A link after a restore (Table 1-5). -/
def restoreLink (kind : RestoreKind) (inUse : Bool) (l : Link) : Link :=
  { Link.cold with
    state := if inUse then .down else .disabled
    configuredClass := if kind = .cold then 2 else l.configuredClass
    invalidFrames := if kind = .cold then 0 else l.invalidFrames
    lateFrames := if kind = .cold then 0 else l.lateFrames }

/-- The quality of a phase after a restore (Tables 1-5 and 2-6). -/
def restoredQuality (inUse : Bool) : Quality := if inUse then .lost else .disabled

/-- The phases-in-use setting after a restore (Table 1-5). -/
def restoredPhases (s : State) : PhasesInUse :=
  if s.store.notice.kind = .cold then .three else s.assembly.phases

/-- Table 1-5. -/
def restoreAssembly (s : State) : State :=
  let u := restoredPhases s
  { s with assembly := { s.assembly with
      phases := u
      links := .of fun φ => restoreLink s.store.notice.kind (phaseInUse u φ) (s.assembly.links.get φ)
      strobe := 0, openSets := []
      quality := .of fun φ => restoredQuality (phaseInUse u φ)
      substitutionRun := .all 0 } }

/-- ASSEMBLY_RESTORE (R19). -/
def execAssemblyRestore (s : State) : StepResult := .next (takeNotice .assembly restoreAssembly s)

/-- Table 2-6.  Sets and notices still on their way belong to the discarded second (R35). -/
def restoreMetrology (s : State) : State :=
  let cold := s.store.notice.kind = .cold
  { s with
    metrology :=
      { calibration := if cold then .all .cold else s.metrology.calibration
        creepThreshold := if cold then 50 else s.metrology.creepThreshold
        running := .empty, mean := .all 0
        live := { Metrology.cold.live with
          quality := .of fun φ => restoredQuality (phaseInUse (restoredPhases s) φ) }
        notices := [], heldSets := [] }
    wires := { s.wires with sets := [], notices := [] } }

/-- METROLOGY_RESTORE (R36). -/
def execMetrologyRestore (s : State) : StepResult := .next (takeNotice .metrology restoreMetrology s)

/-- The totals after a restore (Table 3-5). -/
def restoredTotals (n : RestoreNotice) : Totals :=
  match n.kind with
  | .cold => .zero
  | .warm => (n.image.map SaveImage.totals).getD .zero
  | .checkpoint => (n.checkpoint.map CheckpointContents.totals).getD .zero

/-- The accumulators after a restore (Table 3-5). -/
def restoredAccumulators (n : RestoreNotice) : Accumulators :=
  match n.kind with
  | .warm => (n.image.map SaveImage.accumulators).getD .zero
  | .cold | .checkpoint => .zero

/-- Table 3-5: the values of the table, then the pending basis applied (R45, R55). -/
def restoreNetting (s : State) : State :=
  let k := applyBasis (if s.store.notice.kind = .cold then Netting.cold else s.netting)
  { s with netting :=
      { accumulators := restoredAccumulators s.store.notice, testAccumulator := 0
        basis := k.basis, pendingBasis := k.pendingBasis, totals := restoredTotals s.store.notice
        held := [], awaiting := false, last := .zero k.basis } }

/-- NETTING_RESTORE (R55). -/
def execNettingRestore (s : State) : StepResult := .next (takeNotice .netting restoreNetting s)

/-- The slew remainder after a restore (Table 4-7). -/
def restoredSlew (n : RestoreNotice) : Int :=
  match n.kind with
  | .warm => (n.image.map SaveImage.slew).getD 0
  | .cold | .checkpoint => 0

/-- The pending step after a restore (Table 4-7). -/
def restoredStep (n : RestoreNotice) : Option Instant :=
  match n.kind with
  | .warm => n.image.bind SaveImage.step
  | .cold | .checkpoint => none

/-- Table 4-7.  The first running second opens on the return to RUNNING (R74). -/
def restoreTimeBase (s : State) : State :=
  let n := s.store.notice
  { s with timeBase :=
      { start := restoredTime n s.log.committed, set := restoredSet n
        length := (secondLength (restoredSlew n)).1, counted := 0
        slew := restoredSlew n, step := restoredStep n } }

/-- TIME_BASE_RESTORE (R74). -/
def execTimeBaseRestore (s : State) : StepResult := .next (takeNotice .timeBase restoreTimeBase s)

/-- The flags of the tally opened at a restore (R67). -/
def restoredFlags (k : RestoreKind) : IntervalFlags :=
  { IntervalFlags.none with powerLost := true, checkpoint := k == .checkpoint }

/-- The record of an interrupted tally: the tally of the image, when it has taken a second (R75, stage 2). -/
def interruptedRecord (n : RestoreNotice) : Option IntervalRecord :=
  if n.kind = .warm then
    n.image.bind fun i =>
      if 0 < i.tally.seconds then some (recordOf i.tally (markTime i.start i.clockSet) false true) else none
  else none

/-- Table 4-8, by the stages of R75. -/
def restoreInterval (s : State) : State :=
  let n := s.store.notice
  let base := if n.kind = .cold then IntervalUnit.cold else s.interval
  let u := openTally (markTime (restoredTime n s.log.committed) (restoredSet n)) (restoredFlags n.kind)
    { base with summaries := [], statuses := [], dispatch := none }
  let r := interruptedRecord n
  raiseIf r.isSome .intervalClosed
    { s with interval := u, wires := { s.wires with records := s.wires.records ++ r.toList } }

/-- INTERVAL_RESTORE (R75).  The log takes its restored values before the interval unit (R114, R153). -/
def execIntervalRestore (s : State) : StepResult :=
  .next (if Block.log ∈ s.store.waiting then s else takeNotice .interval restoreInterval s)

/-- The later of two freeze numbers: the one reached from the other in fewer than 2,147,483,648 steps of the
sequence that follows 4,294,967,295 with 1 (Table 5-6). -/
def laterNumber (a b : Nat) : Nat := if (b + 4294967295 - a) % 4294967295 < 2147483648 then b else a

/-- The scheduled day of the newest SCHEDULED record of a freeze list (Table 5-6). -/
def newestScheduled (rs : List FreezeRecord) : Option Nat :=
  (rs.find? fun r => r.cause == .scheduled).bind FreezeRecord.scheduledDay

/-- The greater of two day numbers, or the one that is present (Table 5-6). -/
def greaterDay : Option Nat → Option Nat → Option Nat
  | some a, some b => some (max a b)
  | some a, none => some a
  | none, b => b

/-- The registers after a restore (Table 5-6). -/
def restoredRegisters (n : RestoreNotice) : Registers :=
  match n.kind with
  | .cold => .zero
  | .warm => (n.image.map SaveImage.registers).getD .zero
  | .checkpoint => (n.checkpoint.map CheckpointContents.registers).getD .zero

/-- The next freeze number after a restore, with the freeze list kept (Table 5-6). -/
def restoredFreezeNumber (n : RestoreNotice) (rs : List FreezeRecord) : Nat :=
  match n.kind with
  | .cold => 1
  | .warm => (n.image.map SaveImage.nextFreeze).getD 1
  | .checkpoint =>
    let c := (n.checkpoint.map CheckpointContents.nextFreeze).getD 1
    match rs with
    | [] => c
    | r :: _ => laterNumber c (followingNumber r.number)

/-- The pending command freeze after a restore (Table 5-6). -/
def restoredPendingFreeze (n : RestoreNotice) : Option Nat :=
  match n.kind with
  | .warm => n.image.bind SaveImage.pendingFreeze
  | .cold | .checkpoint => none

/-- The freeze reference after a restore, with the freeze list kept (Table 5-6). -/
def restoredReference (n : RestoreNotice) (rs : List FreezeRecord) : Option Nat :=
  match n.kind with
  | .cold => none
  | .warm => n.image.bind SaveImage.freezeReference
  | .checkpoint => greaterDay (n.checkpoint.bind CheckpointContents.freezeReference) (newestScheduled rs)

/-- Table 5-6. -/
def restoreTariff (s : State) : State :=
  let n := s.store.notice
  let base := if n.kind = .cold then Tariff.cold else s.tariff
  { s with tariff := { base with
      registers := restoredRegisters n
      claim := none
      nextFreeze := restoredFreezeNumber n base.freezes
      pendingFreeze := restoredPendingFreeze n
      freezeReference := restoredReference n base.freezes
      lastFiling := none } }

/-- TARIFF_RESTORE (R97). -/
def execTariffRestore (s : State) : StepResult := .next (takeNotice .tariff restoreTariff s)

/-- The next sequence to be assigned after a restore (Table 6-4). -/
def restoredSequence (n : RestoreNotice) (l : LogImage) : Nat :=
  match n.kind with
  | .cold => 1
  | .warm => l.next
  | .checkpoint => max ((n.checkpoint.map CheckpointContents.logNext).getD 1) l.next

/-- Table 6-4. -/
def restoreLog (s : State) : State :=
  let n := s.store.notice
  let durable := if n.kind = .cold then LogImage.cold else s.log.committed
  { s with log :=
      { records := durable.records, next := restoredSequence n durable, queue := []
        contexts := .all .idle, committed := durable } }

/-- LOG_RESTORE (R114). -/
def execLogRestore (s : State) : StepResult := .next (takeNotice .log restoreLog s)

/-- The utility term of the image, rebuilt with the outage length (R131); `true` when it lapses there. -/
def rebuiltTerm (n : RestoreNotice) (l : LogImage) (t : Term) : Term × Bool :=
  if t.inForce then
    if n.reading.valid ∧ 0 ≤ elapsed n l ∧ elapsed n l < t.validity then
      ({ t with validity := t.validity - (elapsed n l).toNat }, false)
    else (⟨false, t.limit, 0⟩, true)
  else (⟨false, t.limit, 0⟩, false)

/-- The term after a restore, and whether it lapses there (R131, Table 7-3). -/
def restoredTerm (n : RestoreNotice) (l : LogImage) : Term × Bool :=
  match n.kind, n.image with
  | .warm, some i => rebuiltTerm n l i.term
  | _, _ => (.cold, false)

/-- Table 7-3. -/
def restoreEnvelope (s : State) : State :=
  let n := s.store.notice
  let base := if n.kind = .cold then Envelope.cold else s.envelope
  let t := restoredTerm n s.log.committed
  raiseIf t.2 .limitLapsed { s with envelope := { base with
    term := t.1, site := .unlimited, monitor := .clear, line := false, last := ⟨0, .zero, false⟩ } }

/-- ENVELOPE_RESTORE (R131, R132). -/
def execEnvelopeRestore (s : State) : StepResult := .next (takeNotice .envelope restoreEnvelope s)

/-- Table 8-3.  A hand-off still on its way belongs to the time before the restore (notes/assumptions/17.md). -/
def restorePulse (s : State) : State :=
  { s with
    pulse := if s.store.notice.kind = .cold then Pulse.cold
      else { Pulse.cold with
        source := s.pulse.source, activeWidth := s.pulse.activeWidth, gapWidth := s.pulse.gapWidth
        divisor := s.pulse.divisor, timeout := s.pulse.timeout }
    wires := { s.wires with handOffs := [] } }

/-- PULSE_RESTORE (R143). -/
def execPulseRestore (s : State) : StepResult := .next (takeNotice .pulse restorePulse s)

/-- Table 10-6.  Answers being sent run to their end (R158). -/
def restoreEngine (s : State) : State :=
  let cold := s.store.notice.kind = .cold
  setLines { s with engine := { stopEngine s.engine with
    rights := if cold then .cold else s.engine.rights
    enables := if cold then .all 0#15 else s.engine.enables
    pointer := .service, cursors := .all .unset } }

/-- ENGINE_RESTORE (R173). -/
def execEngineRestore (s : State) : StepResult := .next (takeNotice .engine restoreEngine s)

/-! ## Completion (R153) -/

/-- The outage length of a finished restore (R153, step 3): none, or a number of seconds. -/
def outageOf (s : State) : Option Nat :=
  let d := (instantSeconds s.timeBase.start : Int) - (instantSeconds (savedTime s.store.notice) : Int)
  if s.store.notice.kind = .warm ∧ s.store.notice.reading.valid ∧ 0 ≤ d then some d.toNat else none

/-- The outage length is stored; one above the range of Table 9-1 is not stated, and is a free value
(notes/assumptions/5.md). -/
def setOutage (s : State) : State :=
  match outageOf s with
  | none => { s with store := { s.store with outage := none } }
  | some d =>
    if d ≤ 4294967295 then { s with store := { s.store with outage := some d } }
    else { s with
      store := { s.store with outage := some (Config.unstatedValue s.freeCount).toNat }
      freeCount := s.freeCount + 1 }

/-- The first running second opens: its length is chosen and the remainder reduced (R59, R74). -/
def openFirstSecond (b : TimeBase) : TimeBase :=
  { b with length := (secondLength b.slew).1, counted := 0, slew := (secondLength b.slew).2 }

/-- The store enters RUNNING: strobes begin with 0 (R1), the front ends in HUNT (R156), the enable state is taken
as CALEN stands (R168), and the first second opens. -/
def enterRunning (s : State) : State :=
  { s with
    store := { s.store with state := .running }
    assembly := { s.assembly with strobe := 0, openSets := [] }
    timeBase := openFirstSecond s.timeBase
    engine := { s.engine with frontEnds := .all .hunt, enable := s.engine.calen } }

/-- The steps of a finished restore (R153, steps 1 to 4). -/
def finishRestore (s : State) : State :=
  raise .restored (setOutage { s with store := { s.store with
    backup := ⟨s.timeBase.start, s.timeBase.set, true⟩
    lastKind := s.store.notice.kind, lastCause := s.store.notice.cause } })

/-- RESTORE_COMPLETE (R153): every block has taken the notice, and the log the record of an interrupted tally, whose
commit begins during RESTORING (R114, notes/assumptions/21.md). -/
def execRestoreComplete (s : State) : StepResult :=
  .next (if s.store.state = .restoring ∧ s.store.waiting = [] ∧ s.wires.records = [] then
      let s' := finishRestore s
      if s'.store.supok then enterRunning s' else enterSaving .supply s'
    else s)

end Sys2Proof.Machine
end

