-- ==== Sys2Proof/Machine/Objects.lean ====
section
/-! DEFINITION. Chapter 11, the objects (R174, Tables 11-1 and 11-2): their numbers, access types and groups, and
the value each reads. -/

namespace Sys2Proof.Machine

/-! ## Names -/

/-- The five accumulators of 0420h to 0429h (Table 11-1). -/
inductive AccumulatorName where
  | phase (φ : Phase)
  | sum
  | test
  deriving DecidableEq, Repr

/-- The items of a table of a schedule record that are objects of their own (R80). -/
inductive ScheduleItem where
  | revision
  | specialCount
  | switchCount (dayType : Fin 4)
  deriving DecidableEq, Repr

/-- The objects, in the order of Table 11-1. -/
inductive Obj where
  | partCode | designRevision | identityUpper | identityLower
  | liveValid | liveEndDay | liveEndSecond | livePower (φ : Phase) | liveSumPower | liveCreep
  | liveQuality (φ : Phase)
  | phasesInUse | linkRestart | clearLinkCounters | linkState (φ : Phase) | configuredClass (φ : Phase)
  | serial (φ : Phase) | reportedClass (φ : Phase) | missingRun (φ : Phase) | invalidFrames (φ : Phase)
  | lateFrames (φ : Phase)
  | creepThreshold | gain (φ : Phase) (x : Quantity) | offset (φ : Phase) (x : Quantity)
  | basis | pendingBasis | importTotal (φ : Phase) | exportTotal (φ : Phase) | sumImportTotal | sumExportTotal
  | accumulatorUpper (a : AccumulatorName) | accumulatorLower (a : AccumulatorName)
  | lastEndDay | lastEndSecond | lastBasis | lastImport | lastExport | lastQuanta (φ : Phase) | lastSumQuanta
  | lastTest
  | importRegister (band : Fin 6) | exportRegister (band : Fin 6) | filingBand | filingDayType
  | claim | pendingState | activationDay | activationMinute | scheduleCursor | scheduleEntry
  | arm | disarm | discard | activeItem (i : ScheduleItem) | pendingItem (i : ScheduleItem)
  | meterDay | meterSecond | clockState | secondLength | slew | stepPresent | stepDay | stepSecond
  | weekday | year | month | dayOfMonth | intervalLength | pendingLength | timeSet | timeAdjust
  | setTerm | termState | termLimit | validity | fallback | grace | band | hold | activeLevel
  | effectiveLimit | exported | headroom | monitorState | cause | overCount | holdCount | curtailLine | evaluated
  | evaluatedDay | evaluatedSecond | siteLimit
  | recordCount | slotsUsed | oldest | newest | nextSequence | logState
  | contextState (p : Port) | contextNext (p : Port) | contextGap (p : Port)
  | startOldest | startNewest | startAt | logStop | readNext
  | tallyDay | tallySecond | tallyLength | tallyBasis | tallyImport | tallyExport | tallyNet (φ : Phase)
  | tallySubstituted (φ : Phase) | tallyLost (φ : Phase) | tallyClipped (φ : Phase) | tallyPeak | tallyOver
  | tallyCurtail | tallyFlags | tallySeconds
  | freeze | freezeCursor | freezeRecord | freezeCount | nextFreeze | freezeDay | freezeOnActivation
  | pendingFreeze | freezeReference
  | testOn | testOff | testMode | divisor | timeout | timer | testImport | testExport | pulseSource
  | activeWidth | gapWidth | pendingCount | dropped | generator | exitCause
  | latch | enable
  | right (row : Port) (g : Group)
  | totalsClear | logClear | restart | clearAll | lastKind | lastCause | outage
  deriving DecidableEq, Repr

/-! ## Numbers (Table 11-1) -/

/-- The position of a group in Table 0-6. -/
def groupIndex : Group → Fin 16
  | .ident => 0
  | .live => 1
  | .links => 2
  | .calibration => 3
  | .netting => 4
  | .registers => 5
  | .schedule => 6
  | .time => 7
  | .envelopeUtility => 8
  | .envelopeSite => 9
  | .log => 10
  | .freeze => 11
  | .test => 12
  | .events => 13
  | .rights => 14
  | .service => 15

/-- The sixteen groups. -/
def groups : List Group :=
  [.ident, .live, .links, .calibration, .netting, .registers, .schedule, .time, .envelopeUtility, .envelopeSite,
    .log, .freeze, .test, .events, .rights, .service]

/-- The base of a group (Table 0-6). -/
def groupBase : Group → Nat
  | .ident => 0x0000
  | .live => 0x0100
  | .links => 0x0200
  | .calibration => 0x0300
  | .netting => 0x0400
  | .registers => 0x0500
  | .schedule => 0x0600
  | .time => 0x0700
  | .envelopeUtility => 0x0800
  | .envelopeSite => 0x0880
  | .log => 0x0900
  | .freeze => 0x0A00
  | .test => 0x0B00
  | .events => 0x0C00
  | .rights => 0x0D00
  | .service => 0x0E00

/-- The group of a number: the one whose base is the highest at or below it (Table 11-1, Note 2). -/
def groupOf (n : Nat) : Group := ((groups.reverse.find? fun g => decide (groupBase g ≤ n)).getD .ident)

/-- The index of a port in the utility, premises, service order. -/
def portIndex : Port → Nat
  | .utility => 0
  | .premises => 1
  | .service => 2

/-- The index of a quantity within the items of a calibration set. -/
def quantityIndex : Quantity → Nat
  | .voltage => 0
  | .current => 1

/-- The index of an accumulator (Table 11-1). -/
def accumulatorIndex : AccumulatorName → Nat
  | .phase φ => phaseIndex φ
  | .sum => 3
  | .test => 4

/-- The index of a schedule item (Table 11-1). -/
def itemIndex : ScheduleItem → Nat
  | .revision => 0
  | .specialCount => 1
  | .switchCount t => 2 + t.val

/-- The number of an object (Table 11-1). -/
def Obj.number : Obj → Nat
  | .partCode => 0x0000
  | .designRevision => 0x0001
  | .identityUpper => 0x0002
  | .identityLower => 0x0003
  | .liveValid => 0x0100
  | .liveEndDay => 0x0101
  | .liveEndSecond => 0x0102
  | .livePower φ => 0x0103 + phaseIndex φ
  | .liveSumPower => 0x0106
  | .liveCreep => 0x0107
  | .liveQuality φ => 0x0108 + phaseIndex φ
  | .phasesInUse => 0x0200
  | .linkRestart => 0x0201
  | .clearLinkCounters => 0x0202
  | .linkState φ => 0x0210 + 16 * phaseIndex φ
  | .configuredClass φ => 0x0211 + 16 * phaseIndex φ
  | .serial φ => 0x0212 + 16 * phaseIndex φ
  | .reportedClass φ => 0x0213 + 16 * phaseIndex φ
  | .missingRun φ => 0x0214 + 16 * phaseIndex φ
  | .invalidFrames φ => 0x0215 + 16 * phaseIndex φ
  | .lateFrames φ => 0x0216 + 16 * phaseIndex φ
  | .creepThreshold => 0x0300
  | .gain φ x => 0x0310 + 16 * phaseIndex φ + quantityIndex x
  | .offset φ x => 0x0312 + 16 * phaseIndex φ + quantityIndex x
  | .basis => 0x0400
  | .pendingBasis => 0x0401
  | .importTotal φ => 0x0410 + 2 * phaseIndex φ
  | .exportTotal φ => 0x0411 + 2 * phaseIndex φ
  | .sumImportTotal => 0x0416
  | .sumExportTotal => 0x0417
  | .accumulatorUpper a => 0x0420 + 2 * accumulatorIndex a
  | .accumulatorLower a => 0x0421 + 2 * accumulatorIndex a
  | .lastEndDay => 0x0430
  | .lastEndSecond => 0x0431
  | .lastBasis => 0x0432
  | .lastImport => 0x0433
  | .lastExport => 0x0434
  | .lastQuanta φ => 0x0435 + phaseIndex φ
  | .lastSumQuanta => 0x0438
  | .lastTest => 0x0439
  | .importRegister b => 0x0500 + b.val
  | .exportRegister b => 0x0506 + b.val
  | .filingBand => 0x050C
  | .filingDayType => 0x050D
  | .claim => 0x0600
  | .pendingState => 0x0601
  | .activationDay => 0x0602
  | .activationMinute => 0x0603
  | .scheduleCursor => 0x0604
  | .scheduleEntry => 0x0605
  | .arm => 0x0606
  | .disarm => 0x0607
  | .discard => 0x0608
  | .activeItem i => 0x0610 + itemIndex i
  | .pendingItem i => 0x0620 + itemIndex i
  | .meterDay => 0x0700
  | .meterSecond => 0x0701
  | .clockState => 0x0702
  | .secondLength => 0x0703
  | .slew => 0x0704
  | .stepPresent => 0x0705
  | .stepDay => 0x0706
  | .stepSecond => 0x0707
  | .weekday => 0x0708
  | .year => 0x0709
  | .month => 0x070A
  | .dayOfMonth => 0x070B
  | .intervalLength => 0x070C
  | .pendingLength => 0x070D
  | .timeSet => 0x070E
  | .timeAdjust => 0x070F
  | .setTerm => 0x0800
  | .termState => 0x0801
  | .termLimit => 0x0802
  | .validity => 0x0803
  | .fallback => 0x0804
  | .grace => 0x0805
  | .band => 0x0806
  | .hold => 0x0807
  | .activeLevel => 0x0808
  | .effectiveLimit => 0x0809
  | .exported => 0x080A
  | .headroom => 0x080B
  | .monitorState => 0x080C
  | .cause => 0x080D
  | .overCount => 0x080E
  | .holdCount => 0x080F
  | .curtailLine => 0x0810
  | .evaluated => 0x0811
  | .evaluatedDay => 0x0812
  | .evaluatedSecond => 0x0813
  | .siteLimit => 0x0880
  | .recordCount => 0x0900
  | .slotsUsed => 0x0901
  | .oldest => 0x0902
  | .newest => 0x0903
  | .nextSequence => 0x0904
  | .logState => 0x0905
  | .contextState p => 0x0906 + 3 * portIndex p
  | .contextNext p => 0x0907 + 3 * portIndex p
  | .contextGap p => 0x0908 + 3 * portIndex p
  | .startOldest => 0x0910
  | .startNewest => 0x0911
  | .startAt => 0x0912
  | .logStop => 0x0913
  | .readNext => 0x0914
  | .tallyDay => 0x0920
  | .tallySecond => 0x0921
  | .tallyLength => 0x0922
  | .tallyBasis => 0x0923
  | .tallyImport => 0x0924
  | .tallyExport => 0x0925
  | .tallyNet φ => 0x0926 + phaseIndex φ
  | .tallySubstituted φ => 0x0929 + phaseIndex φ
  | .tallyLost φ => 0x092C + phaseIndex φ
  | .tallyClipped φ => 0x092F + phaseIndex φ
  | .tallyPeak => 0x0932
  | .tallyOver => 0x0933
  | .tallyCurtail => 0x0934
  | .tallyFlags => 0x0935
  | .tallySeconds => 0x0936
  | .freeze => 0x0A00
  | .freezeCursor => 0x0A01
  | .freezeRecord => 0x0A02
  | .freezeCount => 0x0A03
  | .nextFreeze => 0x0A04
  | .freezeDay => 0x0A05
  | .freezeOnActivation => 0x0A06
  | .pendingFreeze => 0x0A07
  | .freezeReference => 0x0A08
  | .testOn => 0x0B00
  | .testOff => 0x0B01
  | .testMode => 0x0B02
  | .divisor => 0x0B03
  | .timeout => 0x0B04
  | .timer => 0x0B05
  | .testImport => 0x0B06
  | .testExport => 0x0B07
  | .pulseSource => 0x0B08
  | .activeWidth => 0x0B09
  | .gapWidth => 0x0B0A
  | .pendingCount => 0x0B0B
  | .dropped => 0x0B0C
  | .generator => 0x0B0D
  | .exitCause => 0x0B0E
  | .latch => 0x0C00
  | .enable => 0x0C01
  | .right p g => 0x0D00 + 16 * portIndex p + (groupIndex g).val
  | .totalsClear => 0x0E00
  | .logClear => 0x0E01
  | .restart => 0x0E02
  | .clearAll => 0x0E03
  | .lastKind => 0x0E04
  | .lastCause => 0x0E05
  | .outage => 0x0E06

/-- The objects of a group. -/
def objectsOf : Group → List Obj
  | .ident => [.partCode, .designRevision, .identityUpper, .identityLower]
  | .live => [.liveValid, .liveEndDay, .liveEndSecond, .liveSumPower, .liveCreep] ++
      phases.map .livePower ++ phases.map .liveQuality
  | .links => [.phasesInUse, .linkRestart, .clearLinkCounters] ++
      phases.flatMap fun φ => [.linkState φ, .configuredClass φ, .serial φ, .reportedClass φ, .missingRun φ,
        .invalidFrames φ, .lateFrames φ]
  | .calibration => .creepThreshold ::
      phases.flatMap fun φ => [.gain φ .voltage, .gain φ .current, .offset φ .voltage, .offset φ .current]
  | .netting => [.basis, .pendingBasis, .sumImportTotal, .sumExportTotal, .lastEndDay, .lastEndSecond, .lastBasis,
      .lastImport, .lastExport, .lastSumQuanta, .lastTest,
      .accumulatorUpper .sum, .accumulatorLower .sum, .accumulatorUpper .test, .accumulatorLower .test] ++
      phases.flatMap fun φ => [.importTotal φ, .exportTotal φ, .accumulatorUpper (.phase φ),
        .accumulatorLower (.phase φ), .lastQuanta φ]
  | .registers => [.filingBand, .filingDayType] ++ (List.finRange 6).map .importRegister ++
      (List.finRange 6).map .exportRegister
  | .schedule => [.claim, .pendingState, .activationDay, .activationMinute, .scheduleCursor, .scheduleEntry, .arm,
      .disarm, .discard, .activeItem .revision, .activeItem .specialCount, .pendingItem .revision,
      .pendingItem .specialCount] ++
      (List.finRange 4).flatMap fun t => [.activeItem (.switchCount t), .pendingItem (.switchCount t)]
  | .time => [.meterDay, .meterSecond, .clockState, .secondLength, .slew, .stepPresent, .stepDay, .stepSecond,
      .weekday, .year, .month, .dayOfMonth, .intervalLength, .pendingLength, .timeSet, .timeAdjust]
  | .envelopeUtility => [.setTerm, .termState, .termLimit, .validity, .fallback, .grace, .band, .hold,
      .activeLevel, .effectiveLimit, .exported, .headroom, .monitorState, .cause, .overCount, .holdCount,
      .curtailLine, .evaluated, .evaluatedDay, .evaluatedSecond]
  | .envelopeSite => [.siteLimit]
  | .log => [.recordCount, .slotsUsed, .oldest, .newest, .nextSequence, .logState, .startOldest, .startNewest,
      .startAt, .logStop, .readNext, .tallyDay, .tallySecond, .tallyLength, .tallyBasis, .tallyImport, .tallyExport,
      .tallyPeak, .tallyOver, .tallyCurtail, .tallyFlags, .tallySeconds] ++
      (ports.flatMap fun p => [.contextState p, .contextNext p, .contextGap p]) ++
      phases.flatMap fun φ => [.tallyNet φ, .tallySubstituted φ, .tallyLost φ, .tallyClipped φ]
  | .freeze => [.freeze, .freezeCursor, .freezeRecord, .freezeCount, .nextFreeze, .freezeDay, .freezeOnActivation,
      .pendingFreeze, .freezeReference]
  | .test => [.testOn, .testOff, .testMode, .divisor, .timeout, .timer, .testImport, .testExport, .pulseSource,
      .activeWidth, .gapWidth, .pendingCount, .dropped, .generator, .exitCause]
  | .events => [.latch, .enable]
  | .rights => ports.flatMap fun p => groups.map (.right p)
  | .service => [.totalsClear, .logClear, .restart, .clearAll, .lastKind, .lastCause, .outage]

/-- The object that a number names, if any (R174). -/
def objectNamed (n : Nat) : Option Obj := (objectsOf (groupOf n)).find? fun o => o.number == n

/-- The group of an object. -/
def Obj.group (o : Obj) : Group := groupOf o.number

/-! ## Access types (Table 11-2) -/

/-- Access types. -/
inductive Access where
  | readOnly | readWrite | setValue | command | cursor
  deriving DecidableEq, Repr

/-- The access type of an object (Table 11-1). -/
def Obj.access : Obj → Access
  | .identityUpper | .identityLower | .phasesInUse | .configuredClass _ | .creepThreshold | .gain _ _ | .offset _ _
  | .basis | .claim | .scheduleEntry | .pendingItem _ | .intervalLength | .fallback | .grace | .band | .hold
  | .activeLevel | .siteLimit | .freezeDay | .freezeOnActivation | .divisor | .timeout | .pulseSource | .activeWidth
  | .gapWidth | .right .premises _ | .right .service _ => .readWrite
  | .latch | .enable => .setValue
  | .linkRestart | .clearLinkCounters | .arm | .disarm | .discard | .timeSet | .timeAdjust | .setTerm | .startOldest
  | .startNewest | .startAt | .logStop | .readNext | .freeze | .testOn | .testOff | .totalsClear | .logClear
  | .restart | .clearAll => .command
  | .scheduleCursor | .freezeCursor => .cursor
  | _ => .readOnly

/-- The operands a command needs (R165, Table 11-1). -/
def Obj.operandCount : Obj → Nat
  | .linkRestart | .timeAdjust | .startAt => 1
  | .arm | .timeSet | .setTerm => 2
  | _ => 0

/-- The log context commands, which need READ on LOG (R105, R160). -/
def Obj.isContextCommand : Obj → Bool
  | .startOldest | .startNewest | .startAt | .logStop | .readNext => true
  | _ => false

/-! ## Values -/

/-- What a read of an object finds: a value, no entry or record there, a refusal, or a freeze record. -/
inductive Found where
  | value (w : Word)
  | empty
  | refused (c : ReplyCode)
  | record (r : FreezeRecord)
  deriving DecidableEq, Repr

/-- A present value. -/
def found (n : Nat) : Found := .value (natWord n)

/-- A present signed value. -/
def foundInt (x : Int) : Found := .value (intWord x)

/-- A present flag. -/
def foundFlag (b : Bool) : Found := .value (flagWord b)

/-- A value that may be absent, with the code of its absence. -/
def foundOr (absent : Nat) (x : Option Nat) : Found := found (x.getD absent)

/-- The value of an accumulator (R53). -/
def accumulatorOf (n : Netting) : AccumulatorName → Int
  | .phase φ => n.accumulators.phase.get φ
  | .sum => n.accumulators.sum
  | .test => n.testAccumulator

/-- The upper half of a signed 64-bit value (R53). -/
def upperHalf (x : Int) : Word := (BitVec.ofInt 64 x).extractLsb' 32 32

/-- The lower half of a signed 64-bit value (R53). -/
def lowerHalf (x : Int) : Word := (BitVec.ofInt 64 x).extractLsb' 0 32

/-- The value of an item of a schedule record (R80). -/
def itemValue (c : Schedule) : ScheduleItem → Nat
  | .revision => c.revision
  | .specialCount => c.special.length
  | .switchCount t => (c.switches.get t).length

/-- An entry that may be beyond its list (R80). -/
def entryFound (x : Option Nat) : Found :=
  match x with
  | some n => found n
  | none => .empty

/-- An entry of a table copy, EMPTY while its copy is (R80). -/
def tableEntry (u : Tariff) (copy : ScheduleCopy) (x : Schedule → Option Nat) : Found :=
  if copyEmpty u copy then .empty else entryFound (x (scheduleCopy u copy))

/-- The table entry at a cursor (R80, R164). -/
def entryAt (u : Tariff) : Cursor → Found
  | .week copy i => tableEntry u copy fun c => weekEntry c i
  | .special copy i => tableEntry u copy fun c => c.special[i]?.map packSpecial
  | .switch t copy i => tableEntry u copy fun c => (c.switches.get t)[i]?.map packSwitch
  | .unset | .freeze _ => .refused .badRequest

/-- The freeze record at a cursor (R90, R164). -/
def freezeAt (u : Tariff) : Cursor → Found
  | .freeze i =>
    match u.freezes[i]? with
    | some r => .record r
    | none => .empty
  | .unset | .week _ _ | .special _ _ | .switch _ _ _ => .refused .badRequest

/-- The fixed rights of the utility port (R166, Table 10-5). -/
def utilityRight : Group → Right
  | .calibration | .test => .read
  | _ => .write

/-- A port's right in the map, the fixed rights for the utility port (R166). -/
def mapRight (g : Engine) (p : Port) (x : Group) : Right :=
  match p with
  | .utility => utilityRight x
  | .premises => g.rights.premises.get (groupIndex x)
  | .service => g.rights.service.get (groupIndex x)

/-- A port's effective right: while the enable is OPEN, a WRITE of the service port counts as READ (R166). -/
def effectiveRight (g : Engine) (p : Port) (x : Group) : Right :=
  if p = .service ∧ !g.enable ∧ mapRight g p x = .write then .read else mapRight g p x

/-- The test timer in whole seconds, rounded up (R142). -/
def timerSeconds (strobes : Nat) : Nat := (strobes + 3999) / 4000

/-- What a port finds in an object (Table 11-1). -/
def readObject (s : State) (p : Port) : Obj → Found
  | .partCode => found 3046
  | .designRevision => found 1
  | .identityUpper => .value s.identity.upper
  | .identityLower => .value s.identity.lower
  | .liveValid => foundFlag s.metrology.live.valid
  | .liveEndDay => .value (stampDayWord s.metrology.live.finish)
  | .liveEndSecond => .value (stampSecondWord s.metrology.live.finish)
  | .livePower φ => foundInt (s.metrology.live.power.get φ)
  | .liveSumPower => foundInt s.metrology.live.sumPower
  | .liveCreep => found (phaseSetValue s.metrology.live.creep)
  | .liveQuality φ => found (qualityCode (s.metrology.live.quality.get φ))
  | .phasesInUse => found (phasesCode s.assembly.phases)
  | .linkState φ => found (linkStateCode (s.assembly.links.get φ).state)
  | .configuredClass φ => found (s.assembly.links.get φ).configuredClass
  | .serial φ => .value (s.assembly.links.get φ).serial
  | .reportedClass φ => found (s.assembly.links.get φ).reportedClass
  | .missingRun φ => found (s.assembly.links.get φ).missingRun
  | .invalidFrames φ => found (s.assembly.links.get φ).invalidFrames
  | .lateFrames φ => found (s.assembly.links.get φ).lateFrames
  | .creepThreshold => found s.metrology.creepThreshold
  | .gain φ .voltage => found (s.metrology.calibration.get φ).gainV
  | .gain φ .current => found (s.metrology.calibration.get φ).gainI
  | .offset φ .voltage => foundInt (s.metrology.calibration.get φ).offsetV
  | .offset φ .current => foundInt (s.metrology.calibration.get φ).offsetI
  | .basis => found (basisCode s.netting.basis)
  | .pendingBasis => foundOr 0 (s.netting.pendingBasis.map basisCode)
  | .importTotal φ => found (s.netting.totals.phaseImport.get φ)
  | .exportTotal φ => found (s.netting.totals.phaseExport.get φ)
  | .sumImportTotal => found s.netting.totals.sumImport
  | .sumExportTotal => found s.netting.totals.sumExport
  | .accumulatorUpper a => .value (upperHalf (accumulatorOf s.netting a))
  | .accumulatorLower a => .value (lowerHalf (accumulatorOf s.netting a))
  | .lastEndDay => .value (stampDayWord s.netting.last.finish)
  | .lastEndSecond => .value (stampSecondWord s.netting.last.finish)
  | .lastBasis => found (basisCode s.netting.last.basis)
  | .lastImport => found s.netting.last.billImport
  | .lastExport => found s.netting.last.billExport
  | .lastQuanta φ => foundInt (s.netting.last.quanta.get φ)
  | .lastSumQuanta => foundInt s.netting.last.sumQuanta
  | .lastTest => foundFlag s.netting.last.test
  | .importRegister b => found (s.tariff.registers.imported.get b)
  | .exportRegister b => found (s.tariff.registers.exported.get b)
  | .filingBand => foundOr 0 (s.tariff.lastFiling.map Filing.band)
  | .filingDayType => foundOr 0 (s.tariff.lastFiling.map Filing.dayType)
  | .claim => found (claimCode s.tariff.claim)
  | .pendingState => found (pendingStateCode s.tariff.pendingState)
  | .activationDay => foundOr 4294967295 (s.tariff.activation.map Activation.day)
  | .activationMinute => foundOr 0 (s.tariff.activation.map Activation.minute)
  | .scheduleEntry => entryAt s.tariff (s.engine.cursors.get p)
  | .activeItem i => found (itemValue s.tariff.active i)
  | .pendingItem i => if s.tariff.pendingState = .empty then .empty else found (itemValue s.tariff.pending i)
  | .meterDay => .value (stampDayWord (markTime s.timeBase.start s.timeBase.set))
  | .meterSecond => .value (stampSecondWord (markTime s.timeBase.start s.timeBase.set))
  | .clockState => foundFlag s.timeBase.set
  | .secondLength => found s.timeBase.length
  | .slew => foundInt s.timeBase.slew
  | .stepPresent => foundFlag s.timeBase.step.isSome
  | .stepDay => foundOr 0 (s.timeBase.step.map Instant.day)
  | .stepSecond => foundOr 0 (s.timeBase.step.map Instant.second)
  | .weekday => found (weekdayOf s.timeBase.start.day).val
  | .year => found (dateOf s.timeBase.start.day).year
  | .month => found (dateOf s.timeBase.start.day).month
  | .dayOfMonth => found (dateOf s.timeBase.start.day).day
  | .intervalLength => found s.interval.length
  | .pendingLength => foundOr 0 s.interval.pendingLength
  | .termState => foundFlag s.envelope.term.inForce
  | .termLimit => .value (limitWord s.envelope.term.limit)
  | .validity => found s.envelope.term.validity
  | .fallback => .value (limitWord s.envelope.fallback)
  | .grace => found s.envelope.grace
  | .band => found s.envelope.band
  | .hold => found s.envelope.hold
  | .activeLevel => foundFlag s.envelope.activeHigh
  | .effectiveLimit => .value (limitWord (Machine.effectiveLimit s.envelope))
  | .exported => found s.envelope.last.exported
  | .headroom => foundInt (Machine.headroom s.envelope)
  | .monitorState => found (monitorStateCode s.envelope.monitor.state)
  | .cause => found (curtailCauseCode s.envelope.monitor.cause)
  | .overCount => found s.envelope.monitor.overCount
  | .holdCount => found s.envelope.monitor.holdCount
  | .curtailLine => foundFlag s.envelope.line
  | .evaluated => foundFlag s.envelope.last.evaluated
  | .evaluatedDay => .value (stampDayWord s.envelope.last.finish)
  | .evaluatedSecond => .value (stampSecondWord s.envelope.last.finish)
  | .siteLimit => .value (limitWord s.envelope.site)
  | .recordCount => found s.log.records.length
  | .slotsUsed => found (Machine.slotsUsed s.log.records)
  | .oldest => foundOr 0 (s.log.records.head?.map LogRecord.sequence)
  | .newest => foundOr 0 ((newestRecord s.log).map LogRecord.sequence)
  | .nextSequence => found s.log.next
  | .logState => foundFlag (!logReady s.log)
  | .contextState q => foundFlag (s.log.contexts.get q).reading
  | .contextNext q => found (s.log.contexts.get q).next
  | .contextGap q => found (s.log.contexts.get q).gap
  | .tallyDay => .value (stampDayWord s.interval.tally.start)
  | .tallySecond => .value (stampSecondWord s.interval.tally.start)
  | .tallyLength => found s.interval.tally.length
  | .tallyBasis => foundOr 0 (s.interval.tally.basis.map basisCode)
  | .tallyImport => found s.interval.tally.importWh
  | .tallyExport => found s.interval.tally.exportWh
  | .tallyNet φ => foundInt (s.interval.tally.net.get φ)
  | .tallySubstituted φ => found (s.interval.tally.substituted.get φ)
  | .tallyLost φ => found (s.interval.tally.lost.get φ)
  | .tallyClipped φ => found (s.interval.tally.clipped.get φ)
  | .tallyPeak => found s.interval.tally.peakExport
  | .tallyOver => found s.interval.tally.overSeconds
  | .tallyCurtail => found s.interval.tally.curtailSeconds
  | .tallyFlags => found (intervalFlagsValue s.interval.tally.flags)
  | .tallySeconds => found s.interval.tally.seconds
  | .freezeRecord => freezeAt s.tariff (s.engine.cursors.get p)
  | .freezeCount => found s.tariff.freezes.length
  | .nextFreeze => found s.tariff.nextFreeze
  | .freezeDay => found s.tariff.freezeDay
  | .freezeOnActivation => foundFlag s.tariff.freezeOnActivation
  | .pendingFreeze => foundOr 0 s.tariff.pendingFreeze
  | .freezeReference => foundOr 4294967295 s.tariff.freezeReference
  | .testMode => foundFlag s.pulse.test
  | .divisor => found s.pulse.divisor
  | .timeout => found s.pulse.timeout
  | .timer => found (timerSeconds s.pulse.timer)
  | .testImport => found s.pulse.testImport
  | .testExport => found s.pulse.testExport
  | .pulseSource => found (pulseSourceCode s.pulse.source)
  | .activeWidth => found s.pulse.activeWidth
  | .gapWidth => found s.pulse.gapWidth
  | .pendingCount => found s.pulse.pendingCount
  | .dropped => found s.pulse.dropped
  | .generator => found (generatorCode s.pulse.generator)
  | .exitCause => found (exitCauseCode s.pulse.lastExit)
  | .latch => .value (eventWord (s.engine.latches.get p))
  | .enable => .value (eventWord (s.engine.enables.get p))
  | .right q g => found (rightCode (mapRight s.engine q g))
  | .lastKind => found (restoreKindCode s.store.lastKind)
  | .lastCause => found (saveCauseCode s.store.lastCause)
  | .outage => foundOr 4294967295 s.store.outage
  | .linkRestart | .clearLinkCounters | .scheduleCursor | .arm | .disarm | .discard | .timeSet | .timeAdjust
  | .setTerm | .startOldest | .startNewest | .startAt | .logStop | .readNext | .freeze | .freezeCursor | .testOn
  | .testOff | .totalsClear | .logClear | .restart | .clearAll => .refused .badRequest

end Sys2Proof.Machine
end

