-- ==== Sys2Proof/Machine/Owners.lean ====
section
/-! DEFINITION. The owners' rules: what a WRITE, an EXCHANGE, a MODIFY, a CHECK, a SELECT and each COMMAND does to
the object it names, and what it answers (stage 6 of R160, R162 to R165, and the rules of the owning chapters). -/

namespace Sys2Proof.Machine

/-- The state an owner leaves, with its answer. -/
abbrev Outcome := State × Reply

/-! ## Answers -/

/-- DONE with no result. -/
def doneReply : Reply := ⟨.done, .values []⟩

/-- DONE with result values (R162, R165). -/
def doneWith (ws : List Word) : Reply := ⟨.done, .values ws⟩

/-- An outcome with no result. -/
def plainReply (c : ReplyCode) : Reply := ⟨c, .values []⟩

/-- Done, with no result. -/
def done (s : State) : Outcome := (s, doneReply)

/-- Refused: nothing changes. -/
def refuse (c : ReplyCode) (s : State) : Outcome := (s, plainReply c)

/-- A setting that an operand names, or RANGE. -/
def store {α : Type} (x : Option α) (put : α → State → State) (s : State) : Outcome :=
  match x with
  | some a => done (put a s)
  | none => refuse .range s

/-! ## Updates of single blocks -/

/-- Change the tariff unit. -/
def onTariff (f : Tariff → Tariff) (s : State) : State := { s with tariff := f s.tariff }

/-- Change the envelope monitor. -/
def onEnvelope (f : Envelope → Envelope) (s : State) : State := { s with envelope := f s.envelope }

/-- Change the pulse unit. -/
def onPulse (f : Pulse → Pulse) (s : State) : State := { s with pulse := f s.pulse }

/-- Change the log. -/
def onLog (f : Log → Log) (s : State) : State := { s with log := f s.log }

/-- Change the time base. -/
def onTimeBase (f : TimeBase → TimeBase) (s : State) : State := { s with timeBase := f s.timeBase }

/-! ## Links and calibration (R8, R12, R21, R22, R31) -/

/-- A configured class an operand names (R8). -/
def classNamed (w : Word) : Option Nat := if 1 ≤ w.toNat ∧ w.toNat ≤ 4 then some w.toNat else none

/-- A gain an operand names, read as a signed number (R21). -/
def gainNamed (w : Word) : Option Nat := if 0 ≤ w.toInt ∧ w.toInt ≤ 65535 then some w.toInt.toNat else none

/-- The offset stored for an operand (R22). -/
def offsetOperand (w : Word) : Int := clampInt (-2047) 2047 w.toInt

/-- WRITE of a gain (R21). -/
def writeGain (φ : Phase) (x : Quantity) (w : Word) (s : State) : Outcome :=
  store (gainNamed w) (fun g t => setCalibration φ (storeGain x g (t.metrology.calibration.get φ)) t) s

/-- WRITE of an offset (R22). -/
def writeOffset (φ : Phase) (x : Quantity) (w : Word) (s : State) : Outcome :=
  done (setCalibration φ (storeOffset x (offsetOperand w) (s.metrology.calibration.get φ)) s)

/-- WRITE of the creep threshold (R31). -/
def writeCreep (w : Word) (s : State) : Outcome :=
  done { s with metrology := { s.metrology with creepThreshold := clampNat 0 500 w } }

/-! ## Netting and time (R44, R61, R62, R66) -/

/-- WRITE of the basis object, of the utility port (R44). -/
def writeBasis (p : Port) (w : Word) (s : State) : Outcome :=
  if p = .utility then store (basisNamed w) (fun b t => { t with netting := setPendingBasis b t.netting }) s
  else refuse .denied s

/-- WRITE of the interval length (R66). -/
def writeIntervalLength (w : Word) (s : State) : Outcome :=
  store (intervalLengthNamed w) (fun m t => { t with interval := setPendingLength m t.interval }) s

/-- TIME SET (R61). -/
def commandTimeSet (day second : Word) (s : State) : Outcome :=
  if day.toNat ≤ 65535 ∧ second.toNat ≤ 86399 then
    done (onTimeBase (fun b => { b with step := some ⟨day.toNat, second.toNat⟩ }) s)
  else refuse .range s

/-- TIME ADJUST (R62, R63). -/
def commandTimeAdjust (delta : Word) (s : State) : Outcome :=
  if s.timeBase.set then store (adjustTime s.timeBase delta.toInt) (fun b t => onTimeBase (fun _ => b) t) s
  else refuse .clockUnset s

/-! ## The staging claim (R82) -/

/-- WRITE of the claim (R82). -/
def writeClaim (p : Port) (w : Word) (s : State) : Outcome :=
  match claimNamed p w with
  | none => refuse .range s
  | some v =>
    if s.tariff.claim = v then done s
    else if s.tariff.claim = none then done (onTariff (takeClaim p) s)
    else if s.tariff.claim = some p then done (onTariff (fun u => { u with claim := none }) s)
    else refuse .claimed s

/-- A claim taken away from another port: CLAIM_LOST for that port (R82). -/
def takeClaimFrom (p : Port) (h : Option Port) (s : State) : State :=
  match h with
  | some q => if q = p then s else raiseFor .claimLost q (onTariff (takeClaim p) s)
  | none => onTariff (takeClaim p) s

/-- EXCHANGE of the claim (R82): the new value is checked before the expected one is compared.  An EXCHANGE that
names the holder as the holder changes nothing. -/
def exchangeClaim (p : Port) (expected new : Word) (s : State) : Outcome :=
  match claimNamed p new with
  | none => refuse .range s
  | some v =>
    if expected ≠ natWord (claimCode s.tariff.claim) then
      (s, ⟨.mismatch, .values [natWord (claimCode s.tariff.claim)]⟩)
    else if v = some p then done (takeClaimFrom p s.tariff.claim s)
    else if s.tariff.claim = none ∨ s.tariff.claim = some p then
      done (onTariff (fun u => { u with claim := none }) s)
    else refuse .claimed s

/-! ## The pending schedule (R85 to R88) -/

/-- A write of the pending schedule by the claim holder (R85, checks 3 and 4). -/
def writePending (p : Port) (c : Option Schedule) (s : State) : Outcome :=
  if s.tariff.claim = some p then store c (fun c t => onTariff (fun u => { u with pending := c }) t) s
  else refuse .claimed s

/-- The copy a cursor of a schedule table names (R164). -/
def cursorCopy : Cursor → Option ScheduleCopy
  | .week c _ => some c
  | .special c _ => some c
  | .switch _ c _ => some c
  | .unset | .freeze _ => none

/-- WRITE of the table entry at the port's cursor (R85, R164). -/
def writeScheduleEntry (p : Port) (w : Word) (s : State) : Outcome :=
  match cursorCopy (s.engine.cursors.get p) with
  | none => refuse .badRequest s
  | some .active => refuse .denied s
  | some .pending => writePending p (writeEntry s.tariff.pending (s.engine.cursors.get p) w) s

/-- A pending record with one of its items written (Table 5-4). -/
def writeItem (c : Schedule) (w : Word) : ScheduleItem → Option Schedule
  | .revision => if w.toNat ≤ 65535 then some { c with revision := w.toNat } else none
  | .specialCount => (cutList c.special w).map fun l => { c with special := l }
  | .switchCount t =>
    (cutList (c.switches.get t) w).map fun l => { c with switches := c.switches.set t.val l t.isLt }

/-- ARM (R86). -/
def commandArm (p : Port) (day minute : Word) (s : State) : Outcome :=
  if s.tariff.claim ≠ some p then refuse .claimed s
  else if 65535 < day.toNat ∨ 1439 < minute.toNat then refuse .range s
  else match scheduleFault s.tariff.pending with
    | some f => (s, ⟨.range, .values [natWord f.table, natWord f.index]⟩)
    | none => done (onTariff (armSchedule ⟨day.toNat, minute.toNat⟩) s)

/-- DISARM (R87). -/
def commandDisarm (p : Port) (s : State) : Outcome :=
  if p = .utility then done (onTariff disarmSchedule s) else refuse .denied s

/-- DISCARD (R88). -/
def commandDiscard (p : Port) (s : State) : Outcome :=
  if s.tariff.claim = some p ∨ (p = .utility ∧ s.tariff.claim = none) then done (onTariff discardSchedule s)
  else refuse .claimed s

/-! ## Freezes (R91, R92, R94) -/

/-- FREEZE (R91). -/
def commandFreeze (s : State) : Outcome :=
  if s.pulse.test ∨ s.tariff.pendingFreeze.isSome then refuse .busy s
  else (onTariff announceFreeze s, doneWith [natWord s.tariff.nextFreeze])

/-- WRITE of the scheduled freeze day (R92). -/
def writeFreezeDay (w : Word) (s : State) : Outcome :=
  if w.toNat ≤ 28 then done (onTariff (setFreezeDay w.toNat) s) else refuse .range s

/-- WRITE of freeze-on-activation (R94). -/
def writeFreezeOnActivation (w : Word) (s : State) : Outcome :=
  store (switchNamed w) (fun b t => onTariff (fun u => { u with freezeOnActivation := b }) t) s

/-! ## The log (R106 to R109, R112) -/

/-- LOG START OLDEST (R106). -/
def commandStartOldest (p : Port) (s : State) : Outcome :=
  done (onLog (fun l => setContext p ⟨true, oldestSequence l, 0⟩ l) s)

/-- LOG START NEWEST (R106). -/
def commandStartNewest (p : Port) (s : State) : Outcome :=
  done (onLog (fun l => setContext p ⟨true, newestPosition l, 0⟩ l) s)

/-- LOG START AT (R107). -/
def commandStartAt (p : Port) (n : Word) (s : State) : Outcome :=
  store (startAt s.log n.toNat) (fun c t => onLog (setContext p c) t) s

/-- READ NEXT (R108). -/
def commandReadNext (p : Port) (s : State) : Outcome :=
  let c := s.log.contexts.get p
  if c.reading then
    match recordFrom s.log c.next with
    | some r => (onLog (setContext p ⟨true, r.sequence + 1, 0⟩) s, ⟨.done, .interval c.gap r⟩)
    | none => (s, ⟨.empty, .values [natWord c.gap]⟩)
  else refuse .badRequest s

/-- LOG STOP (R109). -/
def commandLogStop (p : Port) (s : State) : Outcome := done (onLog (setContext p .idle) s)

/-- LOG CLEAR, of the service port (R112). -/
def commandLogClear (p : Port) (s : State) : Outcome :=
  if p = .service then
    if logReady s.log then done (onLog clearLog s) else refuse .busy s
  else refuse .denied s

/-! ## The envelope (R117, R119, R120, R126, R127) -/

/-- SET TERM, of the utility port (R117). -/
def commandSetTerm (p : Port) (limit validity : Word) (s : State) : Outcome :=
  if p = .utility then
    let t := termSet limit validity
    (onEnvelope (fun e => { e with term := t }) s, doneWith [limitWord t.limit, natWord t.validity])
  else refuse .denied s

/-- WRITE of the fallback limit (R119). -/
def writeFallback (w : Word) (s : State) : Outcome :=
  (onEnvelope (fun e => { e with fallback := limitOperand w }) s, doneWith [limitWord (limitOperand w)])

/-- WRITE of the site limit (R120). -/
def writeSite (w : Word) (s : State) : Outcome :=
  (onEnvelope (fun e => { e with site := limitOperand w }) s, doneWith [limitWord (limitOperand w)])

/-- WRITE of the grace (R126). -/
def writeGrace (w : Word) (s : State) : Outcome :=
  (onEnvelope (fun e => { e with grace := clampNat 1 60 w }) s, doneWith [natWord (clampNat 1 60 w)])

/-- WRITE of the release band (R126). -/
def writeBand (w : Word) (s : State) : Outcome :=
  (onEnvelope (fun e => { e with band := clampNat 0 5000 w }) s, doneWith [natWord (clampNat 0 5000 w)])

/-- WRITE of the hold (R126). -/
def writeHold (w : Word) (s : State) : Outcome :=
  (onEnvelope (fun e => { e with hold := clampNat 1 600 w }) s, doneWith [natWord (clampNat 1 600 w)])

/-- WRITE of the curtail active level (R127). -/
def writeActiveLevel (w : Word) (s : State) : Outcome :=
  store (switchNamed w) (fun b t => onEnvelope (fun e => { e with activeHigh := b }) t) s

/-! ## The pulse unit (R134, R136, R137, R139 to R141) -/

/-- WRITE of the pulse source (R134). -/
def writePulseSource (w : Word) (s : State) : Outcome :=
  store (pulseSourceNamed w) (fun x t => onPulse (fun u => { u with source := x }) t) s

/-- WRITE of the active width (R136). -/
def writeActiveWidth (w : Word) (s : State) : Outcome :=
  (onPulse (fun u => { u with activeWidth := clampNat 2 500 w }) s, doneWith [natWord (clampNat 2 500 w)])

/-- WRITE of the gap width (R136). -/
def writeGapWidth (w : Word) (s : State) : Outcome :=
  (onPulse (fun u => { u with gapWidth := clampNat 2 500 w }) s, doneWith [natWord (clampNat 2 500 w)])

/-- WRITE of the test timeout (R139). -/
def writeTimeout (w : Word) (s : State) : Outcome :=
  (onPulse (fun u => { u with timeout := clampNat 1 240 w }) s, doneWith [natWord (clampNat 1 240 w)])

/-- WRITE of the test divisor (R141). -/
def writeDivisor (w : Word) (s : State) : Outcome :=
  if s.pulse.test then refuse .busy s
  else store (divisorNamed w) (fun d t => onPulse (fun u => { u with divisor := d }) t) s

/-- The service port while the calibration enable is closed (R137, R155). -/
def serviceClosed (p : Port) (s : State) : Bool := p = .service && s.engine.enable

/-- TEST ON (R137). -/
def commandTestOn (p : Port) (s : State) : Outcome :=
  if serviceClosed p s then
    if s.pulse.test then done (onPulse (fun u => { u with timer := u.timeout * strobesPerMinute }) s)
    else done (enterTest s)
  else refuse .denied s

/-- TEST OFF (R140). -/
def commandTestOff (p : Port) (s : State) : Outcome :=
  if serviceClosed p s then done (endTest .command s) else refuse .denied s

/-! ## Events and rights (R167, R168, R171) -/

/-- A new enable set of a port, with its attention line (R171, R172). -/
def setEnable (p : Port) (x : EventSet) (s : State) : State :=
  setLines { s with engine := { s.engine with enables := s.engine.enables.set p x } }

/-- WRITE of the enable object (R171). -/
def writeEnable (p : Port) (w : Word) (s : State) : Outcome := store (eventsNamed w) (setEnable p) s

/-- The members named in a mask take their membership from a value (R163). -/
def modifySet (old mask value : EventSet) : EventSet := (old &&& ~~~mask) ||| (value &&& mask)

/-- MODIFY of the enable object (R163, R171). -/
def modifyEnable (p : Port) (mask value : Word) (s : State) : Outcome :=
  match eventsNamed mask, eventsNamed value with
  | some m, some v =>
    let x := modifySet (s.engine.enables.get p) m v
    (setEnable p x s, doneWith [eventWord x])
  | _, _ => refuse .range s

/-- A right stored in the map's row of a port; the utility row is fixed (R166, R167). -/
def putRight (row : Port) (x : Group) (r : Right) (m : RightsMap) : RightsMap :=
  match row with
  | .utility => m
  | .premises => { m with premises := m.premises.set (groupIndex x).val r }
  | .service => { m with service := m.service.set (groupIndex x).val r }

/-- A right changed in the map; the loss of an effective WRITE on SCHEDULE is told to the tariff unit (R167). -/
def setRight (row : Port) (x : Group) (r : Right) (s : State) : State :=
  let s' := { s with engine := { s.engine with rights := putRight row x r s.engine.rights } }
  if effectiveRight s.engine row .schedule = .write ∧ effectiveRight s'.engine row .schedule ≠ .write then
    loseClaim row s'
  else s'

/-- WRITE of a RIGHTS object, of the utility port (R167). -/
def writeRight (p : Port) (row : Port) (x : Group) (w : Word) (s : State) : Outcome :=
  if p = .utility ∧ row ≠ .utility then store (rightNamed w) (setRight row x) s else refuse .denied s

/-- An opening of the calibration enable: TEST ends, and a service claim held under map rights is lost (R168). -/
def openEnable (s : State) : State :=
  let s' := endTest .switch s
  if mapRight s.engine .service .schedule = .write then loseClaim .service s' else s'

/-- A change of CALEN (R168). -/
def changeCalen (closed : Bool) (s : State) : State :=
  let t := { s with engine := { s.engine with calen := closed } }
  if closed = s.engine.calen then s
  else if s.store.state = .running ∨ s.store.state = .saving then
    let t' := raise .calSwitch { t with engine := { t.engine with enable := closed } }
    if closed then t' else openEnable t'
  else t

/-- CALEN_CHANGE (R168). -/
def execCalenChange (closed : Bool) (s : State) : StepResult := .next (changeCalen closed s)

/-! ## Sensing and service commands (R10, R11, R52, R154, R155) -/

/-- LINK RESTART (R10). -/
def commandLinkRestart (w : Word) (s : State) : Outcome :=
  match phaseNamed w with
  | none => refuse .range s
  | some φ => if phaseInUse s.assembly.phases φ then done (restartLink φ s) else refuse .range s

/-- CLEAR LINK COUNTERS (R11). -/
def commandClearCounters (s : State) : Outcome := done { s with assembly := clearCounters s.assembly }

/-- TOTALS CLEAR (R52). -/
def commandTotalsClear (s : State) : Outcome := done { s with netting := clearTotals s.netting }

/-- RESTART (R154). -/
def commandRestart (p : Port) (s : State) : Outcome :=
  if p = .utility || serviceClosed p s then done (enterSaving .restart s) else refuse .denied s

/-- CLEAR ALL (R155). -/
def commandClearAll (p : Port) (s : State) : Outcome :=
  if serviceClosed p s then done (enterSaving .clearAll s) else refuse .denied s

/-! ## The kinds (R162 to R165) -/

/-- WRITE of an object's value under its owner's rule (R162). -/
def writeObject (p : Port) (o : Obj) (w : Word) (s : State) : Outcome :=
  match o with
  | .identityUpper => done { s with identity := { s.identity with upper := w } }
  | .identityLower => done { s with identity := { s.identity with lower := w } }
  | .phasesInUse => store (phasesNamed w) setPhasesInUse s
  | .configuredClass φ => store (classNamed w) (setConfiguredClass φ) s
  | .creepThreshold => writeCreep w s
  | .gain φ x => writeGain φ x w s
  | .offset φ x => writeOffset φ x w s
  | .basis => writeBasis p w s
  | .claim => writeClaim p w s
  | .scheduleEntry => writeScheduleEntry p w s
  | .pendingItem i => writePending p (writeItem s.tariff.pending w i) s
  | .intervalLength => writeIntervalLength w s
  | .fallback => writeFallback w s
  | .grace => writeGrace w s
  | .band => writeBand w s
  | .hold => writeHold w s
  | .activeLevel => writeActiveLevel w s
  | .siteLimit => writeSite w s
  | .freezeDay => writeFreezeDay w s
  | .freezeOnActivation => writeFreezeOnActivation w s
  | .divisor => writeDivisor w s
  | .timeout => writeTimeout w s
  | .pulseSource => writePulseSource w s
  | .activeWidth => writeActiveWidth w s
  | .gapWidth => writeGapWidth w s
  | .enable => writeEnable p w s
  | .right row x => writeRight p row x w s
  | _ => refuse .denied s

/-- The 32-bit value that a CHECK or an EXCHANGE compares, or a refusal; an object without a 32-bit value at that
moment compares with a free value (notes/assumptions/3.md). -/
def presentValue (s : State) (p : Port) (o : Obj) : State × Except ReplyCode Word :=
  match readObject s p o with
  | .value w => (s, .ok w)
  | .refused c => (s, .error c)
  | .empty | .record _ => ({ s with freeCount := s.freeCount + 1 }, .ok (Config.unstatedValue s.freeCount))

/-- EXCHANGE (R162): the claim has its own table, and the latch object is refused (R170). -/
def exchangeObject (p : Port) (o : Obj) (expected new : Word) (s : State) : Outcome :=
  match o with
  | .claim => exchangeClaim p expected new s
  | .latch => refuse .denied s
  | _ =>
    match presentValue s p o with
    | (s', .error c) => refuse c s'
    | (s', .ok w) =>
      if w = expected then writeObject p o new s' else (s', ⟨.mismatch, .values [w]⟩)

/-- MODIFY (R163). -/
def modifyObject (p : Port) (o : Obj) (mask value : Word) (s : State) : Outcome :=
  match o with
  | .enable => modifyEnable p mask value s
  | _ => refuse .denied s

/-- CHECK (R163). -/
def checkObject (p : Port) (o : Obj) (expected mask : Word) (s : State) : Outcome :=
  match presentValue s p o with
  | (s', .error c) => refuse c s'
  | (s', .ok w) => (s', ⟨if w &&& mask = expected &&& mask then .matched else .mismatch, .values [w]⟩)

/-- The copy that a copy code names (R175). -/
def copyNamed (n : Nat) : Option ScheduleCopy :=
  if n = 0 then some .active else if n = 1 then some .pending else none

/-- An index inside the range of a table (R164). -/
def indexBelow (limit : Nat) (w : Word) : Option Nat := if w.toNat < limit then some w.toNat else none

/-- The cursor that a SELECT on the SCHEDULE cursor sets (R164, R175). -/
def scheduleCursorNamed (table index : Word) : Option Cursor :=
  match copyNamed (table.toNat / 256) with
  | none => none
  | some c =>
    match table.toNat % 256 with
    | 1 => (indexBelow 7 index).map (.week c)
    | 2 => (indexBelow 24 index).map (.special c)
    | 3 => (indexBelow 8 index).map (.switch 0 c)
    | 4 => (indexBelow 8 index).map (.switch 1 c)
    | 5 => (indexBelow 8 index).map (.switch 2 c)
    | 6 => (indexBelow 8 index).map (.switch 3 c)
    | _ => none

/-- The cursor that a SELECT on the FREEZE cursor sets; the copy code is not used (R164, R175). -/
def freezeCursorNamed (table index : Word) : Option Cursor :=
  if table.toNat % 256 = 7 then (indexBelow 12 index).map .freeze else none

/-- The cursor that a SELECT names at a cursor object (R164). -/
def cursorNamed (o : Obj) (table index : Word) : Option Cursor :=
  match o with
  | .freezeCursor => freezeCursorNamed table index
  | _ => scheduleCursorNamed table index

/-- SELECT (R164). -/
def selectObject (p : Port) (o : Obj) (table index : Word) (s : State) : Outcome :=
  store (cursorNamed o table index)
    (fun c t => { t with engine := { t.engine with cursors := t.engine.cursors.set p c } }) s

/-- COMMAND (R165), with its operands. -/
def commandObject (p : Port) (o : Obj) (a b : Word) (s : State) : Outcome :=
  match o with
  | .linkRestart => commandLinkRestart a s
  | .clearLinkCounters => commandClearCounters s
  | .arm => commandArm p a b s
  | .disarm => commandDisarm p s
  | .discard => commandDiscard p s
  | .timeSet => commandTimeSet a b s
  | .timeAdjust => commandTimeAdjust a s
  | .setTerm => commandSetTerm p a b s
  | .startOldest => commandStartOldest p s
  | .startNewest => commandStartNewest p s
  | .startAt => commandStartAt p a s
  | .logStop => commandLogStop p s
  | .readNext => commandReadNext p s
  | .freeze => commandFreeze s
  | .testOn => commandTestOn p s
  | .testOff => commandTestOff p s
  | .totalsClear => commandTotalsClear s
  | .logClear => commandLogClear p s
  | .restart => commandRestart p s
  | .clearAll => commandClearAll p s
  | _ => refuse .badRequest s

end Sys2Proof.Machine
end

