-- ==== Sys2Proof/Machine/Engine.lean ====
section
/-! DEFINITION. Chapter 10, the request engine: front ends, queues, arbiter, the stages of an execution, and the
sending of answers (R156 to R161, R170). -/

namespace Sys2Proof.Machine

/-! ## READ (R161, R170) -/

/-- Whether a READ run stops before an object: a command, a cursor or a record object (R161). -/
def endsRun (o : Obj) : Bool := o.access = .command || o.access = .cursor || o = .freezeRecord

/-- The objects of a READ run after its first: the following numbers of the same group, up to a stop (R161). -/
def runAfter (x : Group) : Nat → Nat → List Obj
  | 0, _ => []
  | k + 1, n =>
    if groupOf n = x then
      match objectNamed n with
      | some o => if endsRun o then [] else o :: runAfter x k (n + 1)
      | none => []
    else []

/-- The objects that a READ of count k names (R161): a record object stands alone. -/
def runFrom (o : Obj) (k : Nat) : List Obj :=
  if o = .freezeRecord then [o] else o :: runAfter o.group (k - 1) (o.number + 1)

/-- The values read up to the first object that has none (R161). -/
def runValues : List Found → List Word
  | .value w :: xs => w :: runValues xs
  | _ => []

/-- The answer of a READ (R161), by what its first object holds. -/
def readReply (xs : List Found) : Reply :=
  match xs with
  | .refused c :: _ => plainReply c
  | .record r :: _ => ⟨.done, .freeze r⟩
  | .empty :: _ => plainReply .empty
  | _ => doneWith (runValues xs)

/-- The latch set of a port emptied by a READ (R170). -/
def clearLatch (p : Port) (s : State) : State :=
  setLines { s with engine := { s.engine with latches := s.engine.latches.set p 0#15 } }

/-- READ of a run of objects (R161, R170). -/
def readObjects (p : Port) (o : Obj) (k : Nat) (s : State) : Outcome :=
  let run := runFrom o k
  (if Obj.latch ∈ run then clearLatch p s else s, readReply (run.map (readObject s p)))

/-! ## The stages of an execution (R160) -/

/-- Stage 1, form: the operands and the count fit the kind (R160). -/
def formOk (k : Kind) (r : Request) : Bool :=
  match k with
  | .read => (match r.count with
      | some c => decide (1 ≤ c.toNat ∧ c.toNat ≤ 16)
      | none => false)
  | .write => r.count.isNone && decide (1 ≤ r.operands.length ∧ r.operands.length ≤ 2)
  | .modify | .check | .exchange | .select => r.count.isNone && r.operands.length == 2
  | .command => r.count.isNone

/-- Stage 3, fit: the kind suits the object, a command has the operands it needs, and no object takes a WRITE of two
operands (R160, Table 11-2). -/
def fits (k : Kind) (o : Obj) (r : Request) : Bool :=
  match k, o.access with
  | .command, .command => r.operands.length == o.operandCount
  | .command, _ => false
  | .select, a => a = .cursor
  | .modify, a => a = .setValue
  | .write, a => r.operands.length == 1 && (a = .readOnly || a = .readWrite || a = .setValue)
  | .read, a => a = .readOnly || a = .readWrite || a = .setValue
  | .check, a => a = .readOnly || a = .readWrite || a = .setValue
  | .exchange, a => a = .readOnly || a = .readWrite || a = .setValue

/-- Whether a kind writes (R160, stages 4 and 5). -/
def writes : Kind → Bool
  | .write | .modify | .exchange => true
  | .read | .check | .select | .command => false

/-- Stage 5, rights (R160). -/
def allowed (g : Engine) (p : Port) (k : Kind) (o : Obj) : Bool :=
  let r := effectiveRight g p o.group
  if writes k || (k = .command && !o.isContextCommand) then r = .write else r = .read || r = .write

/-- Stage 6: the request arrives at the owner (R160). -/
def ownerActs (p : Port) (k : Kind) (o : Obj) (r : Request) (s : State) : Outcome :=
  let a := r.operands.getD 0 0
  let b := r.operands.getD 1 0
  match k with
  | .read => readObjects p o ((r.count.map BitVec.toNat).getD 1) s
  | .write => writeObject p o a s
  | .modify => modifyObject p o a b s
  | .check => checkObject p o a b s
  | .exchange => exchangeObject p o a b s
  | .select => selectObject p o a b s
  | .command => commandObject p o a b s

/-- Stages 3 to 6 of an execution, the object being named (R160). -/
def executeOn (p : Port) (k : Kind) (o : Obj) (r : Request) (s : State) : Outcome :=
  if !fits k o r then refuse .badRequest s
  else if writes k && o.access = .readOnly then refuse .denied s
  else if !allowed s.engine p k o then refuse .denied s
  else ownerActs p k o r s

/-- The execution of a request, in the stages of R160. -/
def executeRequest (p : Port) (r : Request) (s : State) : Outcome :=
  match kindNamed r.kind with
  | none => refuse .badRequest s
  | some k =>
    if !formOk k r then refuse .badRequest s
    else match objectNamed r.object.toNat with
      | none => refuse .noObject s
      | some o => executeOn p k o r s

/-! ## The arbiter (R159) -/

/-- The ports in the order the arbiter looks at them: from the one after the pointer (R159). -/
def rotationAfter : Port → List Port
  | .utility => [.premises, .service, .utility]
  | .premises => [.service, .utility, .premises]
  | .service => [.utility, .premises, .service]

/-- Append an answer to those a port has formed and not sent (R158). -/
def formAnswer (p : Port) (a : Answer) (s : State) : State :=
  { s with engine := { s.engine with outbox := s.engine.outbox.set p (s.engine.outbox.get p ++ [a]) } }

/-- The engine has taken a request: the pointer names its port, and the engine is SENDING for it (R159). -/
def beginServing (p : Port) (rest : List Request) (s : State) : State :=
  { s with engine := { s.engine with
      queues := s.engine.queues.set p rest, pointer := p, state := .sending p } }

/-- A request taken from the head of a port's queue is executed, and its answer formed (R159, R160). -/
def serve (p : Port) (r : Request) (rest : List Request) (s : State) : State :=
  let out := executeRequest p r (beginServing p rest s)
  formAnswer p (.executed r.tag out.2) out.1

/-- The port that the arbiter takes a request from (R159). -/
def nextPort (g : Engine) : Option Port :=
  (rotationAfter g.pointer).find? fun p => !(g.queues.get p).isEmpty

/-- The arbiter takes a request when the engine is IDLE, the store is RUNNING and a queue holds one (R159). -/
def arbitrate (s : State) : State :=
  if s.engine.state = .idle ∧ s.store.state = .running then
    match nextPort s.engine with
    | none => s
    | some p =>
      match s.engine.queues.get p with
      | [] => s
      | r :: rest => serve p r rest s
  else s

/-! ## Front ends and queues (R156, R157) -/

/-- The most requests that wait in a port's queue (R157). -/
def queueLimit : Nat := 3

/-- Whether an answer is a FULL answer. -/
def isFull : Answer → Bool
  | .full _ => true
  | .executed _ _ => false

/-- Set a port's front end. -/
def setFrontEnd (p : Port) (x : FrontEnd) (s : State) : State :=
  { s with engine := { s.engine with frontEnds := s.engine.frontEnds.set p x } }

/-- A request joins its port's queue, or is answered FULL, or is dropped (R157). -/
def enqueue (p : Port) (r : Request) (s : State) : State :=
  if (s.engine.queues.get p).length < queueLimit then
    arbitrate { s with engine := { s.engine with
      queues := s.engine.queues.set p (s.engine.queues.get p ++ [r]) } }
  else if (s.engine.outbox.get p).any isFull then s
  else formAnswer p (.full r.tag) s

/-- A whole right request frame has arrived at a port: the front end is back in HUNT and passes the request on;
frames are ignored while the store is not RUNNING (R156, R145). -/
def submit (p : Port) (r : Request) (s : State) : State :=
  if s.store.state = .running then enqueue p r (setFrontEnd p .hunt s) else s

/-- FRAME_START (R156): a start byte in HUNT. -/
def execFrameStart (p : Port) (s : State) : StepResult :=
  .next (if s.store.state = .running ∧ s.engine.frontEnds.get p = .hunt then setFrontEnd p .receiving s else s)

/-- FRAME_LENGTH_REJECT (R156): a length that no request frame can have. -/
def execFrameLengthReject (p : Port) (length : Byte) (s : State) : StepResult :=
  .next (if s.store.state = .running ∧ s.engine.frontEnds.get p = .receiving ∧ length.toNat ∉ bodyLengths then
      setFrontEnd p .hunt s
    else s)

/-- FRAME_GAP (R156). -/
def execFrameGap (p : Port) (s : State) : StepResult :=
  .next (if s.store.state = .running ∧ s.engine.frontEnds.get p = .receiving then setFrontEnd p .hunt s else s)

/-- REQUEST_FRAME (R156): the body and the frame check of the frame being received; a wrong check drops it. -/
def execRequestFrame (p : Port) (body : List Byte) (check : BitVec 16) (s : State) : StepResult :=
  .next (if s.store.state = .running ∧ s.engine.frontEnds.get p = .receiving ∧ body.length ∈ bodyLengths then
      if check = frameCheck body then submit p (requestOf body) s else setFrontEnd p .hunt s
    else s)

/-! ## Sending (R158) -/

/-- The answer at the head of a port's outbox has left the port: its bytes have gone out on TXD. -/
def sendHead (p : Port) (a : Answer) (rest : List Answer) (s : State) : State :=
  { s with engine := { s.engine with
      outbox := s.engine.outbox.set p rest, txd := s.engine.txd.set p (answerFrame a) } }

/-- ANSWER_SENT (R158): the last byte of the executed answer has left; the engine is IDLE, and the arbiter may take
the next request (R159). -/
def execAnswerSent (s : State) : StepResult :=
  .next (match s.engine.state with
    | .idle => s
    | .sending p =>
      match s.engine.outbox.get p with
      | .executed t r :: rest =>
        let s' := sendHead p (.executed t r) rest s
        arbitrate { s' with engine := { s'.engine with state := .idle } }
      | _ => s)

/-- FULL_ANSWER_SENT (R158). -/
def execFullAnswerSent (p : Port) (s : State) : StepResult :=
  .next (match s.engine.outbox.get p with
    | .full t :: rest => sendHead p (.full t) rest s
    | _ => s)

end Sys2Proof.Machine
end

