-- ==== Sys2Proof/Machine/Requests.lean ====
section
/-! DEFINITION. The request rows of the opcode table, one definition for each: the arrival at its port of the whole
request frame that spells it (R156, Tables 10-2, 11-1 and 11-4).  What the request then does is decided by the
stages of R160 and by its owner's rule (Machine/Engine.lean, Machine/Owners.lean). -/

namespace Sys2Proof.Machine

/-! ## Frames -/

/-- A request without a count byte (Table 11-4). -/
def rawRequest (f : Sender) (k : Kind) (object : BitVec 16) (operands : List Word) : Request :=
  { tag := f.tag, kind := kindCode k, object := object, count := none, operands := operands }

/-- A request that names an object of Table 11-1. -/
def requestTo (f : Sender) (k : Kind) (o : Obj) (operands : List Word) : Request :=
  rawRequest f k (BitVec.ofNat 16 o.number) operands

/-- The request that writes a value object: WRITE or EXCHANGE (R162). -/
def requestOfForm (f : Sender) (o : Obj) : WriteForm → Request
  | .write v => requestTo f .write o [v]
  | .exchange expected new => requestTo f .exchange o [expected, new]

/-- The request that writes a set object: WRITE, MODIFY or EXCHANGE (R162, R163). -/
def requestOfSetForm (f : Sender) (o : Obj) : SetForm → Request
  | .write v => requestTo f .write o [v]
  | .modify mask value => requestTo f .modify o [mask, value]
  | .exchange expected new => requestTo f .exchange o [expected, new]

/-- The request that a REGISTER_WRITE spells (R162). -/
def requestOfValueForm (f : Sender) (object : BitVec 16) : ValueForm → Request
  | .write v => rawRequest f .write object [v]
  | .writeTwo first second => rawRequest f .write object [first, second]
  | .exchange expected new => rawRequest f .exchange object [expected, new]

/-- A READ with its count (R161). -/
def readRequest (f : Sender) (o : Obj) (count : Byte) : Request :=
  { tag := f.tag, kind := kindCode .read, object := BitVec.ofNat 16 o.number, count := some count, operands := [] }

/-- The object that a write of the pending schedule names (R85, Table 11-1). -/
def targetObject : PendingTarget → Obj
  | .entry => .scheduleEntry
  | .revision => .pendingItem .revision
  | .specialCount => .pendingItem .specialCount
  | .switchCount t => .pendingItem (.switchCount t)

/-- The cursor object that a SELECT names (R164). -/
def cursorObject : CursorObject → Obj
  | .schedule => .scheduleCursor
  | .freeze => .freezeCursor

/-- The whole request frame of a sender arrives. -/
def arrival (f : Sender) (r : Request) (s : State) : StepResult := .next (submit f.port r s)

/-! ## Requests -/

/-- REGISTER_WRITE (R162). -/
def execRegisterWrite (f : Sender) (object : BitVec 16) (w : ValueForm) (s : State) : StepResult :=
  arrival f (requestOfValueForm f object w) s

/-- CHECK (R163). -/
def execCheck (f : Sender) (object : BitVec 16) (expected mask : Word) (s : State) : StepResult :=
  arrival f (rawRequest f .check object [expected, mask]) s

/-- TABLE_CURSOR_SELECT (R164). -/
def execTableCursorSelect (f : Sender) (object : CursorObject) (table index : Word) (s : State) : StepResult :=
  arrival f (requestTo f .select (cursorObject object) [table, index]) s

/-- LINK_RESTART (R10). -/
def execLinkRestart (f : Sender) (phase : Word) (s : State) : StepResult :=
  arrival f (requestTo f .command .linkRestart [phase]) s

/-- CLEAR_LINK_COUNTERS (R11). -/
def execClearLinkCounters (f : Sender) (s : State) : StepResult :=
  arrival f (requestTo f .command .clearLinkCounters []) s

/-- PHASES_IN_USE_WRITE (R12). -/
def execPhasesInUseWrite (f : Sender) (w : WriteForm) (s : State) : StepResult :=
  arrival f (requestOfForm f .phasesInUse w) s

/-- CONFIGURED_CLASS_WRITE (R8). -/
def execConfiguredClassWrite (f : Sender) (φ : Phase) (w : WriteForm) (s : State) : StepResult :=
  arrival f (requestOfForm f (.configuredClass φ) w) s

/-- GAIN_WRITE (R21). -/
def execGainWrite (f : Sender) (φ : Phase) (x : Quantity) (w : WriteForm) (s : State) : StepResult :=
  arrival f (requestOfForm f (.gain φ x) w) s

/-- OFFSET_WRITE (R22). -/
def execOffsetWrite (f : Sender) (φ : Phase) (x : Quantity) (w : WriteForm) (s : State) : StepResult :=
  arrival f (requestOfForm f (.offset φ x) w) s

/-- CREEP_THRESHOLD_WRITE (R31). -/
def execCreepThresholdWrite (f : Sender) (w : WriteForm) (s : State) : StepResult :=
  arrival f (requestOfForm f .creepThreshold w) s

/-- BASIS_WRITE (R44). -/
def execBasisWrite (f : Sender) (w : WriteForm) (s : State) : StepResult :=
  arrival f (requestOfForm f .basis w) s

/-- TOTALS_CLEAR (R52). -/
def execTotalsClear (f : Sender) (s : State) : StepResult :=
  arrival f (requestTo f .command .totalsClear []) s

/-- TIME_SET (R61). -/
def execTimeSet (f : Sender) (day second : Word) (s : State) : StepResult :=
  arrival f (requestTo f .command .timeSet [day, second]) s

/-- TIME_ADJUST (R62). -/
def execTimeAdjust (f : Sender) (delta : Word) (s : State) : StepResult :=
  arrival f (requestTo f .command .timeAdjust [delta]) s

/-- INTERVAL_LENGTH_WRITE (R66). -/
def execIntervalLengthWrite (f : Sender) (w : WriteForm) (s : State) : StepResult :=
  arrival f (requestOfForm f .intervalLength w) s

/-- STAGING_CLAIM_WRITE (R82). -/
def execStagingClaimWrite (f : Sender) (value : Word) (s : State) : StepResult :=
  arrival f (requestTo f .write .claim [value]) s

/-- STAGING_CLAIM_EXCHANGE (R82). -/
def execStagingClaimExchange (f : Sender) (expected new : Word) (s : State) : StepResult :=
  arrival f (requestTo f .exchange .claim [expected, new]) s

/-- PENDING_TABLE_WRITE (R85). -/
def execPendingTableWrite (f : Sender) (target : PendingTarget) (w : WriteForm) (s : State) : StepResult :=
  arrival f (requestOfForm f (targetObject target) w) s

/-- ARM (R86). -/
def execArm (f : Sender) (day minute : Word) (s : State) : StepResult :=
  arrival f (requestTo f .command .arm [day, minute]) s

/-- DISARM (R87). -/
def execDisarm (f : Sender) (s : State) : StepResult :=
  arrival f (requestTo f .command .disarm []) s

/-- DISCARD (R88). -/
def execDiscard (f : Sender) (s : State) : StepResult :=
  arrival f (requestTo f .command .discard []) s

/-- FREEZE (R91). -/
def execFreeze (f : Sender) (s : State) : StepResult :=
  arrival f (requestTo f .command .freeze []) s

/-- SCHEDULED_FREEZE_DAY_WRITE (R92). -/
def execScheduledFreezeDayWrite (f : Sender) (w : WriteForm) (s : State) : StepResult :=
  arrival f (requestOfForm f .freezeDay w) s

/-- FREEZE_ON_ACTIVATION_WRITE (R94). -/
def execFreezeOnActivationWrite (f : Sender) (w : WriteForm) (s : State) : StepResult :=
  arrival f (requestOfForm f .freezeOnActivation w) s

/-- LOG_START_OLDEST (R106). -/
def execLogStartOldest (f : Sender) (s : State) : StepResult :=
  arrival f (requestTo f .command .startOldest []) s

/-- LOG_START_NEWEST (R106). -/
def execLogStartNewest (f : Sender) (s : State) : StepResult :=
  arrival f (requestTo f .command .startNewest []) s

/-- LOG_START_AT (R107). -/
def execLogStartAt (f : Sender) (sequence : Word) (s : State) : StepResult :=
  arrival f (requestTo f .command .startAt [sequence]) s

/-- READ_NEXT (R108). -/
def execReadNext (f : Sender) (s : State) : StepResult :=
  arrival f (requestTo f .command .readNext []) s

/-- LOG_STOP (R109). -/
def execLogStop (f : Sender) (s : State) : StepResult :=
  arrival f (requestTo f .command .logStop []) s

/-- LOG_CLEAR (R112). -/
def execLogClear (f : Sender) (s : State) : StepResult :=
  arrival f (requestTo f .command .logClear []) s

/-- SET_TERM (R117). -/
def execSetTerm (f : Sender) (limit validity : Word) (s : State) : StepResult :=
  arrival f (requestTo f .command .setTerm [limit, validity]) s

/-- FALLBACK_LIMIT_WRITE (R119). -/
def execFallbackLimitWrite (f : Sender) (w : WriteForm) (s : State) : StepResult :=
  arrival f (requestOfForm f .fallback w) s

/-- SITE_LIMIT_WRITE (R120). -/
def execSiteLimitWrite (f : Sender) (w : WriteForm) (s : State) : StepResult :=
  arrival f (requestOfForm f .siteLimit w) s

/-- GRACE_WRITE (R126). -/
def execGraceWrite (f : Sender) (w : WriteForm) (s : State) : StepResult :=
  arrival f (requestOfForm f .grace w) s

/-- RELEASE_BAND_WRITE (R126). -/
def execReleaseBandWrite (f : Sender) (w : WriteForm) (s : State) : StepResult :=
  arrival f (requestOfForm f .band w) s

/-- HOLD_WRITE (R126). -/
def execHoldWrite (f : Sender) (w : WriteForm) (s : State) : StepResult :=
  arrival f (requestOfForm f .hold w) s

/-- CURTAIL_ACTIVE_LEVEL_WRITE (R127). -/
def execCurtailActiveLevelWrite (f : Sender) (w : WriteForm) (s : State) : StepResult :=
  arrival f (requestOfForm f .activeLevel w) s

/-- TEST_ON (R137). -/
def execTestOn (f : Sender) (s : State) : StepResult :=
  arrival f (requestTo f .command .testOn []) s

/-- TEST_OFF (R140). -/
def execTestOff (f : Sender) (s : State) : StepResult :=
  arrival f (requestTo f .command .testOff []) s

/-- PULSE_SOURCE_WRITE (R134). -/
def execPulseSourceWrite (f : Sender) (w : WriteForm) (s : State) : StepResult :=
  arrival f (requestOfForm f .pulseSource w) s

/-- ACTIVE_WIDTH_WRITE (R136). -/
def execActiveWidthWrite (f : Sender) (w : WriteForm) (s : State) : StepResult :=
  arrival f (requestOfForm f .activeWidth w) s

/-- GAP_WIDTH_WRITE (R136). -/
def execGapWidthWrite (f : Sender) (w : WriteForm) (s : State) : StepResult :=
  arrival f (requestOfForm f .gapWidth w) s

/-- TEST_TIMEOUT_WRITE (R139). -/
def execTestTimeoutWrite (f : Sender) (w : WriteForm) (s : State) : StepResult :=
  arrival f (requestOfForm f .timeout w) s

/-- TEST_DIVISOR_WRITE (R141). -/
def execTestDivisorWrite (f : Sender) (w : WriteForm) (s : State) : StepResult :=
  arrival f (requestOfForm f .divisor w) s

/-- RESTART (R154). -/
def execRestart (f : Sender) (s : State) : StepResult :=
  arrival f (requestTo f .command .restart []) s

/-- CLEAR_ALL (R155). -/
def execClearAll (f : Sender) (s : State) : StepResult :=
  arrival f (requestTo f .command .clearAll []) s

/-- LATCH_READ (R170). -/
def execLatchRead (f : Sender) (count : Byte) (s : State) : StepResult :=
  arrival f (readRequest f .latch count) s

/-- ENABLE_SET_WRITE (R171). -/
def execEnableSetWrite (f : Sender) (w : SetForm) (s : State) : StepResult :=
  arrival f (requestOfSetForm f .enable w) s

/-- RIGHTS_WRITE (R167). -/
def execRightsWrite (f : Sender) (row : Port) (group : Group) (w : WriteForm) (s : State) : StepResult :=
  arrival f (requestOfForm f (.right row group) w) s

end Sys2Proof.Machine
end

