-- ==== Sys2Proof/Machine/Dispatch.lean ====
section
/-! DEFINITION. The meaning of every command: one arm for each row of spec/opcode_table.json. -/

namespace Sys2Proof.Machine

/-- The effect of a command on everything but the queue of commands that wait. -/
def exec (i : Instr) (s : State) : Host.Outcome State Fault Refusal :=
  match i with
  | .strobeIssue => Sys2Proof.Machine.execStrobeIssue s
  | .identifyCountdownExpiry ph => Sys2Proof.Machine.execIdentifyCountdownExpiry ph s
  | .missingRunExpiry ph => Sys2Proof.Machine.execMissingRunExpiry ph s
  | .substitutionRunExpiry ph => Sys2Proof.Machine.execSubstitutionRunExpiry ph s
  | .upstreamFrame ph bytes => Sys2Proof.Machine.execUpstreamFrame ph bytes s
  | .sampleSetTake => Sys2Proof.Machine.execSampleSetTake s
  | .secondBoundary => Sys2Proof.Machine.execSecondBoundary s
  | .boundaryNotice => Sys2Proof.Machine.execBoundaryNotice s
  | .nettingSummaryArrival => Sys2Proof.Machine.execNettingSummaryArrival s
  | .dispatchAcknowledgment => Sys2Proof.Machine.execDispatchAcknowledgment s
  | .tariffDispatch => Sys2Proof.Machine.execTariffDispatch s
  | .intervalSummaryArrival => Sys2Proof.Machine.execIntervalSummaryArrival s
  | .envelopeStatusArrival => Sys2Proof.Machine.execEnvelopeStatusArrival s
  | .intervalDispatchArrival => Sys2Proof.Machine.execIntervalDispatchArrival s
  | .envelopeSummaryArrival => Sys2Proof.Machine.execEnvelopeSummaryArrival s
  | .termLapse => Sys2Proof.Machine.execTermLapse s
  | .graceExpiry => Sys2Proof.Machine.execGraceExpiry s
  | .holdExpiry => Sys2Proof.Machine.execHoldExpiry s
  | .pulseHandOff => Sys2Proof.Machine.execPulseHandOff s
  | .activePeriodEnd => Sys2Proof.Machine.execActivePeriodEnd s
  | .gapPeriodEnd => Sys2Proof.Machine.execGapPeriodEnd s
  | .testTimerExpiry => Sys2Proof.Machine.execTestTimerExpiry s
  | .recordIntake => Sys2Proof.Machine.execRecordIntake s
  | .commitComplete => Sys2Proof.Machine.execCommitComplete s
  | .checkpointNotice => Sys2Proof.Machine.execCheckpointNotice s
  | .checkpointWriteEnd => Sys2Proof.Machine.execCheckpointWriteEnd s
  | .supokFall => Sys2Proof.Machine.execSupokFall s
  | .supokRise => Sys2Proof.Machine.execSupokRise s
  | .saveStart => Sys2Proof.Machine.execSaveStart s
  | .saveComplete => Sys2Proof.Machine.execSaveComplete s
  | .powerUp supokHigh => Sys2Proof.Machine.execPowerUp supokHigh s
  | .saveDefeated cut => Sys2Proof.Machine.execSaveDefeated cut s
  | .backupDomainLoss => Sys2Proof.Machine.execBackupDomainLoss s
  | .backupClockTick => Sys2Proof.Machine.execBackupClockTick s
  | .assemblyRestore => Sys2Proof.Machine.execAssemblyRestore s
  | .metrologyRestore => Sys2Proof.Machine.execMetrologyRestore s
  | .nettingRestore => Sys2Proof.Machine.execNettingRestore s
  | .timeBaseRestore => Sys2Proof.Machine.execTimeBaseRestore s
  | .intervalRestore => Sys2Proof.Machine.execIntervalRestore s
  | .tariffRestore => Sys2Proof.Machine.execTariffRestore s
  | .logRestore => Sys2Proof.Machine.execLogRestore s
  | .envelopeRestore => Sys2Proof.Machine.execEnvelopeRestore s
  | .pulseRestore => Sys2Proof.Machine.execPulseRestore s
  | .engineRestore => Sys2Proof.Machine.execEngineRestore s
  | .restoreComplete => Sys2Proof.Machine.execRestoreComplete s
  | .calenChange closed => Sys2Proof.Machine.execCalenChange closed s
  | .requestFrame p body check => Sys2Proof.Machine.execRequestFrame p body check s
  | .frameGap p => Sys2Proof.Machine.execFrameGap p s
  | .answerSent => Sys2Proof.Machine.execAnswerSent s
  | .registerWrite f object w => Sys2Proof.Machine.execRegisterWrite f object w s
  | .check f object expected mask => Sys2Proof.Machine.execCheck f object expected mask s
  | .tableCursorSelect f object table index => Sys2Proof.Machine.execTableCursorSelect f object table index s
  | .linkRestart f phase => Sys2Proof.Machine.execLinkRestart f phase s
  | .clearLinkCounters f => Sys2Proof.Machine.execClearLinkCounters f s
  | .phasesInUseWrite f w => Sys2Proof.Machine.execPhasesInUseWrite f w s
  | .configuredClassWrite f ph w => Sys2Proof.Machine.execConfiguredClassWrite f ph w s
  | .gainWrite f ph x w => Sys2Proof.Machine.execGainWrite f ph x w s
  | .offsetWrite f ph x w => Sys2Proof.Machine.execOffsetWrite f ph x w s
  | .creepThresholdWrite f w => Sys2Proof.Machine.execCreepThresholdWrite f w s
  | .basisWrite f w => Sys2Proof.Machine.execBasisWrite f w s
  | .totalsClear f => Sys2Proof.Machine.execTotalsClear f s
  | .timeSet f day second => Sys2Proof.Machine.execTimeSet f day second s
  | .timeAdjust f delta => Sys2Proof.Machine.execTimeAdjust f delta s
  | .intervalLengthWrite f w => Sys2Proof.Machine.execIntervalLengthWrite f w s
  | .stagingClaimWrite f value => Sys2Proof.Machine.execStagingClaimWrite f value s
  | .stagingClaimExchange f expected new => Sys2Proof.Machine.execStagingClaimExchange f expected new s
  | .pendingTableWrite f target w => Sys2Proof.Machine.execPendingTableWrite f target w s
  | .arm f day minute => Sys2Proof.Machine.execArm f day minute s
  | .disarm f => Sys2Proof.Machine.execDisarm f s
  | .discard f => Sys2Proof.Machine.execDiscard f s
  | .freeze f => Sys2Proof.Machine.execFreeze f s
  | .scheduledFreezeDayWrite f w => Sys2Proof.Machine.execScheduledFreezeDayWrite f w s
  | .freezeOnActivationWrite f w => Sys2Proof.Machine.execFreezeOnActivationWrite f w s
  | .logStartOldest f => Sys2Proof.Machine.execLogStartOldest f s
  | .logStartNewest f => Sys2Proof.Machine.execLogStartNewest f s
  | .logStartAt f sequence => Sys2Proof.Machine.execLogStartAt f sequence s
  | .readNext f => Sys2Proof.Machine.execReadNext f s
  | .logStop f => Sys2Proof.Machine.execLogStop f s
  | .logClear f => Sys2Proof.Machine.execLogClear f s
  | .setTerm f limit validity => Sys2Proof.Machine.execSetTerm f limit validity s
  | .fallbackLimitWrite f w => Sys2Proof.Machine.execFallbackLimitWrite f w s
  | .siteLimitWrite f w => Sys2Proof.Machine.execSiteLimitWrite f w s
  | .graceWrite f w => Sys2Proof.Machine.execGraceWrite f w s
  | .releaseBandWrite f w => Sys2Proof.Machine.execReleaseBandWrite f w s
  | .holdWrite f w => Sys2Proof.Machine.execHoldWrite f w s
  | .curtailActiveLevelWrite f w => Sys2Proof.Machine.execCurtailActiveLevelWrite f w s
  | .testOn f => Sys2Proof.Machine.execTestOn f s
  | .testOff f => Sys2Proof.Machine.execTestOff f s
  | .pulseSourceWrite f w => Sys2Proof.Machine.execPulseSourceWrite f w s
  | .activeWidthWrite f w => Sys2Proof.Machine.execActiveWidthWrite f w s
  | .gapWidthWrite f w => Sys2Proof.Machine.execGapWidthWrite f w s
  | .testTimeoutWrite f w => Sys2Proof.Machine.execTestTimeoutWrite f w s
  | .testDivisorWrite f w => Sys2Proof.Machine.execTestDivisorWrite f w s
  | .restart f => Sys2Proof.Machine.execRestart f s
  | .clearAll f => Sys2Proof.Machine.execClearAll f s
  | .latchRead f count => Sys2Proof.Machine.execLatchRead f count s
  | .enableSetWrite f w => Sys2Proof.Machine.execEnableSetWrite f w s
  | .rightsWrite f row group w => Sys2Proof.Machine.execRightsWrite f row group w s
  | .frameStart p => Sys2Proof.Machine.execFrameStart p s
  | .frameLengthReject p length => Sys2Proof.Machine.execFrameLengthReject p length s
  | .fullAnswerSent p => Sys2Proof.Machine.execFullAnswerSent p s
  | .vddLoss => Sys2Proof.Machine.execVddLoss s

end Sys2Proof.Machine
end

