-- ==== Sys2Proof/Safety.lean ====
section
/-! DEFINITION. What the statements about the part speak of: a part that takes a request at once, the state an
answered request leaves, rights, latched events, and the conditions that hold of every state a run reaches. -/

namespace Sys2Proof.Machine

/-! ## Requests -/

/-- A part that executes a request on its arrival: RUNNING, with the engine IDLE and no request waiting (R159). -/
def Ready (s : State) : Prop :=
  s.store.state = .running ∧ s.engine.state = .idle ∧ s.engine.queues = .all []

/-- The engine's part of an answered request: the sender's front end is back in HUNT, the pointer names its port, the
engine is SENDING for it, and its answer stands formed (R156, R158, R159). -/
def served (f : Sender) (reply : Reply) (s : State) : State :=
  { s with engine := { s.engine with
      frontEnds := s.engine.frontEnds.set f.port .hunt
      pointer := f.port
      state := .sending f.port
      outbox := s.engine.outbox.set f.port (s.engine.outbox.get f.port ++ [.executed f.tag reply]) } }

/-- The sender of a command that is a request; the events of the part have none (R156, log entry 2). -/
def requestSender : Instr → Option Sender
  | .registerWrite f _ _ | .check f _ _ _ | .tableCursorSelect f _ _ _ | .linkRestart f _ | .clearLinkCounters f
  | .phasesInUseWrite f _ | .configuredClassWrite f _ _ | .gainWrite f _ _ _ | .offsetWrite f _ _ _
  | .creepThresholdWrite f _ | .basisWrite f _ | .totalsClear f | .timeSet f _ _ | .timeAdjust f _
  | .intervalLengthWrite f _ | .stagingClaimWrite f _ | .stagingClaimExchange f _ _ | .pendingTableWrite f _ _
  | .arm f _ _ | .disarm f | .discard f | .freeze f | .scheduledFreezeDayWrite f _
  | .freezeOnActivationWrite f _ | .logStartOldest f | .logStartNewest f | .logStartAt f _ | .readNext f
  | .logStop f | .logClear f | .setTerm f _ _ | .fallbackLimitWrite f _ | .siteLimitWrite f _ | .graceWrite f _
  | .releaseBandWrite f _ | .holdWrite f _ | .curtailActiveLevelWrite f _ | .testOn f | .testOff f
  | .pulseSourceWrite f _ | .activeWidthWrite f _ | .gapWidthWrite f _ | .testTimeoutWrite f _
  | .testDivisorWrite f _ | .restart f | .clearAll f | .latchRead f _ | .enableSetWrite f _
  | .rightsWrite f _ _ _ => some f
  | .strobeIssue | .identifyCountdownExpiry _ | .missingRunExpiry _ | .substitutionRunExpiry _
  | .upstreamFrame _ _ | .sampleSetTake | .secondBoundary | .boundaryNotice | .nettingSummaryArrival
  | .dispatchAcknowledgment | .tariffDispatch | .intervalSummaryArrival | .envelopeStatusArrival
  | .intervalDispatchArrival | .envelopeSummaryArrival | .termLapse | .graceExpiry | .holdExpiry | .pulseHandOff
  | .activePeriodEnd | .gapPeriodEnd | .testTimerExpiry | .recordIntake | .commitComplete | .checkpointNotice
  | .checkpointWriteEnd | .supokFall | .supokRise | .saveStart | .saveComplete | .powerUp _ | .saveDefeated _
  | .backupDomainLoss | .backupClockTick | .assemblyRestore | .metrologyRestore | .nettingRestore
  | .timeBaseRestore | .intervalRestore | .tariffRestore | .logRestore | .envelopeRestore | .pulseRestore
  | .engineRestore | .restoreComplete | .calenChange _ | .requestFrame _ _ _ | .frameGap _ | .answerSent
  | .frameStart _ | .frameLengthReject _ _ | .fullAnswerSent _ | .vddLoss => none

/-- The port's effective right on an object's group is WRITE (R166). -/
def MayWrite (s : State) (p : Port) (o : Obj) : Prop := effectiveRight s.engine p o.group = .write

/-- The port's effective right on an object's group is READ or WRITE (R160, stage 5). -/
def MayRead (s : State) (p : Port) (o : Obj) : Prop :=
  effectiveRight s.engine p o.group = .read ∨ effectiveRight s.engine p o.group = .write

/-- A write form that puts a value: a WRITE of it, or an EXCHANGE that expects the present value (R162). -/
def Puts (w : WriteForm) (present value : Word) : Prop := w = .write value ∨ w = .exchange present value

/-- A signed operand brought into a range: below it the lowest value, above it the highest (R126, R136, R139). -/
def clampedTo (low high : Nat) (w : Word) : Nat :=
  if w.toInt < low then low else if (high : Int) < w.toInt then high else w.toInt.toNat

/-- A limit operand: 4,294,967,295 is UNLIMITED, and above 100,000 W there is only 100,000 (R117). -/
def limitRead (w : Word) : Limit :=
  if w = 4294967295#32 then .unlimited else if 100000 < w.toNat then .watts 100000 else .watts w.toNat

/-- An event is latched at every port (R169). -/
def Latched (k : EventKind) (s : State) : Prop :=
  ∀ p, s.engine.latches.get p &&& eventSet k = eventSet k

/-! ## Invariants -/

/-- Each attention line is active exactly while its port's latch set and enable set meet, and inactive in DORMANT
(R172). -/
def LinesAgree (s : State) : Prop :=
  ∀ p, s.engine.lines.get p = attention s.store.state (s.engine.latches.get p) (s.engine.enables.get p)

/-- The curtail line is active exactly in CURTAILING and HOLDING (R127). -/
def LineFollowsMonitor (s : State) : Prop := s.envelope.line = lineActive s.envelope.monitor

/-- The pending count is at most 4,095 (R133). -/
def PulsesBounded (s : State) : Prop := s.pulse.pendingCount ≤ 4095

/-- The pending schedule is EDITING whenever a port holds the claim (R82). -/
def ClaimEdits (s : State) : Prop := s.tariff.claim ≠ none → s.tariff.pendingState = .editing

/-- How many of a port's unsent answers are FULL answers. -/
def fullAnswers (s : State) (p : Port) : Nat := ((s.engine.outbox.get p).filter isFull).length

/-- How many of a port's unsent answers are answers of executed requests. -/
def executedAnswers (s : State) (p : Port) : Nat := ((s.engine.outbox.get p).filter fun a => !isFull a).length

/-- The engine's law (R157 to R159): at most three requests wait at a port, none while the engine is IDLE in RUNNING or
while the store is not RUNNING; a port has at most one FULL answer unsent, and the answer of an executed request
exactly while the engine is SENDING for it. -/
def EngineLaw (s : State) : Prop :=
  (∀ p, (s.engine.queues.get p).length ≤ 3 ∧ fullAnswers s p ≤ 1 ∧
      executedAnswers s p = if s.engine.state = .sending p then 1 else 0) ∧
    (s.engine.state = .idle ∨ s.store.state ≠ .running → s.engine.queues = .all [])

/-- A count of Wh below 1,000,000,000 (R47, R76). -/
def whCount (n : Nat) : Bool := decide (n < 1000000000)

/-- The eight totals are counts below 1,000,000,000 (R47). -/
def Totals.bounded (t : Totals) : Bool :=
  phases.all (fun φ => whCount (t.phaseImport.get φ) && whCount (t.phaseExport.get φ)) &&
    whCount t.sumImport && whCount t.sumExport

/-- The twelve registers are counts below 1,000,000,000 (R76). -/
def Registers.bounded (r : Registers) : Bool := r.imported.toList.all whCount && r.exported.toList.all whCount

/-- The contents of a checkpoint are within their bounds. -/
def CheckpointContents.bounded (c : CheckpointContents) : Bool := c.registers.bounded && c.totals.bounded

/-- The Wh counts of a save image are within their bounds. -/
def SaveImage.bounded (i : SaveImage) : Bool := i.registers.bounded && i.totals.bounded

/-- The Wh counts of the store's records are within their bounds. -/
def Store.bounded (r : Store) : Bool :=
  r.image.all SaveImage.bounded && r.notice.image.all SaveImage.bounded &&
    (match r.write with
     | .image i => i.bounded
     | _ => true) &&
    r.copyX.all (fun c => c.contents.bounded) && r.copyY.all (fun c => c.contents.bounded) &&
    r.copyWrite.all (fun w => w.copy.contents.bounded) && r.pendingCopy.all CheckpointContents.bounded &&
    r.notice.checkpoint.all CheckpointContents.bounded

/-- Every register, total and test counter is a count below 1,000,000,000, in the blocks and in what the store keeps of
them (R47, R76, R138). -/
def WhBounded (s : State) : Prop :=
  s.tariff.registers.bounded = true ∧ s.netting.totals.bounded = true ∧
    s.pulse.testImport < 1000000000 ∧ s.pulse.testExport < 1000000000 ∧ s.store.bounded = true

/-- Each billing accumulator lies strictly between −Q and Q, and the sum accumulator differs from the three phase
accumulators by a whole multiple of Q (R39, R40). -/
def Accumulators.lawful (a : Accumulators) : Prop :=
  (∀ φ, |a.phase.get φ| < quantum) ∧ |a.sum| < quantum ∧ quantum ∣ a.sum - sumInt a.phase

/-- A summary's sum energy is the sum of its three energy sums (R32). -/
def Summary.lawful (y : Summary) : Prop := y.sumEnergy = sumInt y.energy

/-- The accumulators of the netting unit and of the save images are lawful, and so is every summary on its way to the
netting unit or held there (R39, R40). -/
def AccumulatorLaw (s : State) : Prop :=
  s.netting.accumulators.lawful ∧
    (∀ i, s.store.image = some i ∨ s.store.notice.image = some i ∨ s.store.write = .image i →
      i.accumulators.lawful) ∧
    ∀ y, y ∈ s.wires.toNetting ∨ y ∈ s.netting.held → y.lawful

/-- Records in rising sequence below N, in at most 2,048 slots (R100). -/
def recordsLawful (rs : List LogRecord) (next : Nat) : Prop :=
  1 ≤ next ∧ (rs.map LogRecord.sequence).Pairwise (· < ·) ∧ (∀ r ∈ rs, 1 ≤ r.sequence ∧ r.sequence < next) ∧
    slotsUsed rs ≤ logSlots

/-- A state of the log that a commit makes durable is lawful. -/
def LogImage.lawful (i : LogImage) : Prop := recordsLawful i.records i.next

/-- The records that the log holds, has committed and is committing are lawful (R100, R101). -/
def LogLaw (s : State) : Prop :=
  recordsLawful s.log.records s.log.next ∧ s.log.committed.lawful ∧
    ∀ e ∈ s.log.queue, (entryImage e).lawful

/-- The settings of a calibration set within their ranges (R21, R22). -/
def CalibrationSet.legal (c : CalibrationSet) : Prop :=
  c.gainV ≤ 65535 ∧ c.gainI ≤ 65535 ∧ |c.offsetV| ≤ 2047 ∧ |c.offsetI| ≤ 2047

/-- A limit is at most 100,000 W or UNLIMITED (R117, R119, R120). -/
def Limit.legal : Limit → Prop
  | .watts w => w ≤ 100000
  | .unlimited => True

/-- Every clamped or refused setting lies in its range (R8, R21, R22, R31, R66, R92, R119, R120, R126, R136, R139,
R141). -/
def SettingsLegal (s : State) : Prop :=
  (∀ φ, (s.metrology.calibration.get φ).legal ∧ 1 ≤ (s.assembly.links.get φ).configuredClass ∧
      (s.assembly.links.get φ).configuredClass ≤ 4) ∧
    s.metrology.creepThreshold ≤ 500 ∧
    s.interval.length ∈ [5, 10, 15, 30, 60] ∧
    (∀ m, s.interval.pendingLength = some m → m ∈ [5, 10, 15, 30, 60]) ∧
    s.tariff.freezeDay ≤ 28 ∧
    s.envelope.fallback.legal ∧ s.envelope.site.legal ∧
    (1 ≤ s.envelope.grace ∧ s.envelope.grace ≤ 60) ∧ s.envelope.band ≤ 5000 ∧
    (1 ≤ s.envelope.hold ∧ s.envelope.hold ≤ 600) ∧
    (2 ≤ s.pulse.activeWidth ∧ s.pulse.activeWidth ≤ 500) ∧ (2 ≤ s.pulse.gapWidth ∧ s.pulse.gapWidth ≤ 500) ∧
    (1 ≤ s.pulse.timeout ∧ s.pulse.timeout ≤ 240) ∧ s.pulse.divisor ∈ [1, 10, 100, 1000]

end Sys2Proof.Machine
end

