-- ==== Sys2Proof/Certificates/Slice0/Obligations.lean ====
section
/-! DEFINITION. The statements about the part, for the provers.  Each docstring names the rules of the spec that the
statement follows; OBLIGATIONS.json lists them. -/

open Sys2Proof Sys2Proof.Machine

/-- At a ready part, from a port with WRITE on the object's group, a WRITE of G, B, H, A, the gap width or the test
timeout (or an EXCHANGE that expects the present value) reads its operand as a signed number, stores it clamped
to the setting's range, and answers DONE with the stored value. Nothing else changes but the engine's record of
the request. (R126, R136, R139) -/
def Obligations.ClampedSettingWrites : Prop :=
  ∀ (f : Sender) (w : WriteForm) (v : Word) (s : State), Ready s →
    (MayWrite s f.port .grace → Puts w (natWord s.envelope.grace) v →
      exec (.graceWrite f w) s = .next (served f (doneWith [natWord (clampedTo 1 60 v)])
        { s with envelope := { s.envelope with grace := clampedTo 1 60 v } })) ∧
    (MayWrite s f.port .band → Puts w (natWord s.envelope.band) v →
      exec (.releaseBandWrite f w) s = .next (served f (doneWith [natWord (clampedTo 0 5000 v)])
        { s with envelope := { s.envelope with band := clampedTo 0 5000 v } })) ∧
    (MayWrite s f.port .hold → Puts w (natWord s.envelope.hold) v →
      exec (.holdWrite f w) s = .next (served f (doneWith [natWord (clampedTo 1 600 v)])
        { s with envelope := { s.envelope with hold := clampedTo 1 600 v } })) ∧
    (MayWrite s f.port .activeWidth → Puts w (natWord s.pulse.activeWidth) v →
      exec (.activeWidthWrite f w) s = .next (served f (doneWith [natWord (clampedTo 2 500 v)])
        { s with pulse := { s.pulse with activeWidth := clampedTo 2 500 v } })) ∧
    (MayWrite s f.port .gapWidth → Puts w (natWord s.pulse.gapWidth) v →
      exec (.gapWidthWrite f w) s = .next (served f (doneWith [natWord (clampedTo 2 500 v)])
        { s with pulse := { s.pulse with gapWidth := clampedTo 2 500 v } })) ∧
    (MayWrite s f.port .timeout → Puts w (natWord s.pulse.timeout) v →
      exec (.testTimeoutWrite f w) s = .next (served f (doneWith [natWord (clampedTo 1 240 v)])
        { s with pulse := { s.pulse with timeout := clampedTo 1 240 v } }))

/-- At a ready part, from a port with WRITE on the object's group, a WRITE of Lf or Ls (or an EXCHANGE that expects
the present value) stores UNLIMITED for 4,294,967,295, 100,000 for any other value above it, and the value
itself otherwise, and answers DONE with the stored value. SET TERM from the utility port stores its limit
operand likewise and its validity, read as signed and clamped to 60 to 86,400, makes the term IN_FORCE, and
answers both; from another port it is refused with DENIED. Monitor and line stay as they were. (R117, R119,
R120) -/
def Obligations.LimitAndTermCommands : Prop :=
  ∀ (f : Sender) (w : WriteForm) (v validity : Word) (s : State), Ready s →
    (MayWrite s f.port .fallback → Puts w (limitWord s.envelope.fallback) v →
      exec (.fallbackLimitWrite f w) s = .next (served f (doneWith [limitWord (limitRead v)])
        { s with envelope := { s.envelope with fallback := limitRead v } })) ∧
    (MayWrite s f.port .siteLimit → Puts w (limitWord s.envelope.site) v →
      exec (.siteLimitWrite f w) s = .next (served f (doneWith [limitWord (limitRead v)])
        { s with envelope := { s.envelope with site := limitRead v } })) ∧
    (MayWrite s f.port .setTerm → exec (.setTerm f v validity) s = .next (
      if f.port = .utility then
        served f (doneWith [limitWord (limitRead v), natWord (clampedTo 60 86400 validity)])
          { s with envelope := { s.envelope with
            term := ⟨true, limitRead v, clampedTo 60 86400 validity⟩ } }
      else served f (plainReply .denied) s))

/-- At a ready part, from a port with WRITE on CALIBRATION, the operand being read as signed: a gain from 0 to
65,535 is stored and answered DONE, any other is refused with RANGE and changes nothing; an offset is stored
clamped to -2,047 to 2,047; the creep threshold is stored clamped to 0 to 500. One item of one phase changes,
every other item and all else stay. (R21, R22, R31) -/
def Obligations.CalibrationWrites : Prop :=
  ∀ (f : Sender) (φ : Phase) (x : Quantity) (w : WriteForm) (v : Word) (s : State), Ready s →
    MayWrite s f.port .creepThreshold →
    (∀ old, readObject s f.port (.gain φ x) = .value old → Puts w old v →
      exec (.gainWrite f φ x w) s = .next (
        if 0 ≤ v.toInt ∧ v.toInt ≤ 65535 then
          served f doneReply (setCalibration φ (match x with
            | .voltage => { s.metrology.calibration.get φ with gainV := v.toInt.toNat }
            | .current => { s.metrology.calibration.get φ with gainI := v.toInt.toNat }) s)
        else served f (plainReply .range) s)) ∧
    (∀ old, readObject s f.port (.offset φ x) = .value old → Puts w old v →
      exec (.offsetWrite f φ x w) s = .next (served f doneReply (setCalibration φ (match x with
        | .voltage => { s.metrology.calibration.get φ with offsetV := max (-2047) (min 2047 v.toInt) }
        | .current => { s.metrology.calibration.get φ with offsetI := max (-2047) (min 2047 v.toInt) }) s))) ∧
    (Puts w (natWord s.metrology.creepThreshold) v →
      exec (.creepThresholdWrite f w) s = .next (served f doneReply
        { s with metrology := { s.metrology with creepThreshold := clampedTo 0 500 v } }))

/-- At a ready part, from a port with WRITE on the object's group: 0 and 1 are stored as the curtail active level
(LOW, HIGH) and as freeze-on-activation (OFF, ON); 0, 1 and 2 as the pulse source; 1, 10, 100 and 1000 as the
test divisor while the part is in NORMAL. Each is answered DONE, any other operand is refused with RANGE and
changes nothing, and in TEST a write of the divisor is refused with BUSY whatever the operand. The line and the
pending count do not change. (R94, R127, R134, R141) -/
def Obligations.EnumeratedSettingWrites : Prop :=
  ∀ (f : Sender) (w : WriteForm) (v : Word) (s : State), Ready s →
    (MayWrite s f.port .activeLevel → Puts w (flagWord s.envelope.activeHigh) v →
      exec (.curtailActiveLevelWrite f w) s = .next (
        if v = 0#32 then served f doneReply { s with envelope := { s.envelope with activeHigh := false } }
        else if v = 1#32 then served f doneReply { s with envelope := { s.envelope with activeHigh := true } }
        else served f (plainReply .range) s)) ∧
    (MayWrite s f.port .freezeOnActivation → Puts w (flagWord s.tariff.freezeOnActivation) v →
      exec (.freezeOnActivationWrite f w) s = .next (
        if v = 0#32 then served f doneReply { s with tariff := { s.tariff with freezeOnActivation := false } }
        else if v = 1#32 then served f doneReply { s with tariff := { s.tariff with freezeOnActivation := true } }
        else served f (plainReply .range) s)) ∧
    (MayWrite s f.port .pulseSource → Puts w (natWord (pulseSourceCode s.pulse.source)) v →
      exec (.pulseSourceWrite f w) s = .next (
        if v = 0#32 then served f doneReply { s with pulse := { s.pulse with source := .imported } }
        else if v = 1#32 then served f doneReply { s with pulse := { s.pulse with source := .exported } }
        else if v = 2#32 then served f doneReply { s with pulse := { s.pulse with source := .absolute } }
        else served f (plainReply .range) s)) ∧
    (MayWrite s f.port .divisor → Puts w (natWord s.pulse.divisor) v →
      exec (.testDivisorWrite f w) s = .next (
        if s.pulse.test = true then served f (plainReply .busy) s
        else if v.toNat = 1 ∨ v.toNat = 10 ∨ v.toNat = 100 ∨ v.toNat = 1000 then
          served f doneReply { s with pulse := { s.pulse with divisor := v.toNat } }
        else served f (plainReply .range) s))

/-- At a ready part. A write of the basis from the utility port makes an operand that differs from the basis in
force the pending basis, and one that equals it clears the pending basis; from another port with WRITE it is
refused with DENIED. A write of the interval length does the same with the pending length for 5, 10, 15, 30 and
60. A write of F stores 0 to 28, and clears the freeze reference when it changes F. Other operands are refused
with RANGE and change nothing. (R44, R66, R92) -/
def Obligations.PendingSettingWrites : Prop :=
  ∀ (f : Sender) (w : WriteForm) (v : Word) (s : State), Ready s →
    (MayWrite s f.port .basis → Puts w (natWord (basisCode s.netting.basis)) v →
      exec (.basisWrite f w) s = .next (
        if f.port ≠ .utility then served f (plainReply .denied) s
        else if v = natWord (basisCode s.netting.basis) then
          served f doneReply { s with netting := { s.netting with pendingBasis := none } }
        else if v = 1#32 then served f doneReply { s with netting := { s.netting with pendingBasis := some .phase } }
        else if v = 2#32 then served f doneReply { s with netting := { s.netting with pendingBasis := some .vector } }
        else served f (plainReply .range) s)) ∧
    (MayWrite s f.port .intervalLength → Puts w (natWord s.interval.length) v →
      exec (.intervalLengthWrite f w) s = .next (
        if v.toNat = 5 ∨ v.toNat = 10 ∨ v.toNat = 15 ∨ v.toNat = 30 ∨ v.toNat = 60 then
          served f doneReply { s with interval := { s.interval with
            pendingLength := if v.toNat = s.interval.length then none else some v.toNat } }
        else served f (plainReply .range) s)) ∧
    (MayWrite s f.port .freezeDay → Puts w (natWord s.tariff.freezeDay) v →
      exec (.scheduledFreezeDayWrite f w) s = .next (
        if 28 < v.toNat then served f (plainReply .range) s
        else if v.toNat = s.tariff.freezeDay then served f doneReply s
        else served f doneReply { s with tariff := { s.tariff with
          freezeDay := v.toNat, freezeReference := none } }))

/-- At a ready part, from a port with WRITE on LINKS. A class from 1 to 4 is stored; a LOCKED link whose reported
class differs moves to MISMATCH and LINK_CHANGE is latched; a MISMATCH link's identify countdown becomes 0; any
other operand is refused with RANGE. Phases in use written from 3 to 1 leaves phases 2 and 3 DISABLED in link,
quality and live quality with live power 0; written from 1 to 3 leaves them DOWN and LOST, with PHASE_LOST
latched. (R8, R12) -/
def Obligations.LinkSettings : Prop :=
  ∀ (f : Sender) (w : WriteForm) (v : Word) (s : State), Ready s → MayWrite s f.port .phasesInUse →
    (∀ φ, Puts w (natWord (s.assembly.links.get φ).configuredClass) v → (v.toNat < 1 ∨ 4 < v.toNat) →
      exec (.configuredClassWrite f φ w) s = .next (served f (plainReply .range) s)) ∧
    (∀ φ, Puts w (natWord (s.assembly.links.get φ).configuredClass) v → 1 ≤ v.toNat → v.toNat ≤ 4 →
      ∃ t, exec (.configuredClassWrite f φ w) s = .next t ∧
      (t.assembly.links.get φ).configuredClass = v.toNat ∧
      (∀ ψ, ψ ≠ φ → t.assembly.links.get ψ = s.assembly.links.get ψ) ∧
      ((s.assembly.links.get φ).state = .locked → v.toNat ≠ (s.assembly.links.get φ).configuredClass →
        v.toNat ≠ (s.assembly.links.get φ).reportedClass →
        (t.assembly.links.get φ).state = .mismatch ∧ (t.assembly.links.get φ).countdown = 0 ∧
          Latched .linkChange t) ∧
      ((s.assembly.links.get φ).state = .mismatch → v.toNat ≠ (s.assembly.links.get φ).configuredClass →
        (t.assembly.links.get φ).state = .mismatch ∧ (t.assembly.links.get φ).countdown = 0)) ∧
    (Puts w (natWord (phasesCode s.assembly.phases)) v → v ≠ 1#32 → v ≠ 3#32 →
      exec (.phasesInUseWrite f w) s = .next (served f (plainReply .range) s)) ∧
    (Puts w (natWord (phasesCode s.assembly.phases)) v → v = natWord (phasesCode s.assembly.phases) →
      exec (.phasesInUseWrite f w) s = .next (served f doneReply s)) ∧
    (Puts w 3#32 v → s.assembly.phases = .three → v = 1#32 → ∃ t, exec (.phasesInUseWrite f w) s = .next t ∧
      t.assembly.phases = .one ∧ t.assembly.links.p1 = s.assembly.links.p1 ∧
      ∀ φ, φ ≠ .p1 → (t.assembly.links.get φ).state = .disabled ∧ t.assembly.quality.get φ = .disabled ∧
        t.assembly.substitutionRun.get φ = 0 ∧ t.metrology.live.quality.get φ = .disabled ∧
        t.metrology.live.power.get φ = 0) ∧
    (Puts w 1#32 v → s.assembly.phases = .one → v = 3#32 → ∃ t, exec (.phasesInUseWrite f w) s = .next t ∧
      t.assembly.phases = .three ∧ t.assembly.links.p1 = s.assembly.links.p1 ∧ Latched .phaseLost t ∧
      ∀ φ, φ ≠ .p1 → (t.assembly.links.get φ).state = .down ∧ t.assembly.quality.get φ = .lost ∧
        t.assembly.substitutionRun.get φ = 0 ∧ t.metrology.live.quality.get φ = .lost)

/-- At a ready part, from a port with WRITE on LINKS. LINK RESTART of a phase in use leaves its control slot
RESTART, its countdown 0 and its link DOWN, keeps its serial, reported class and counters, and latches
LINK_CHANGE when the link was LOCKED or MISMATCH; an operand that names no phase, or one not in use, is refused
with RANGE. CLEAR LINK COUNTERS sets both counters of all three links to 0 and changes nothing else. (R10, R11) -/
def Obligations.LinkCommands : Prop :=
  ∀ (f : Sender) (w : Word) (s : State), Ready s → MayWrite s f.port .linkRestart →
    (∀ φ, w = natWord (phaseIndex φ + 1) → phaseInUse s.assembly.phases φ = true →
      ∃ t, exec (.linkRestart f w) s = .next t ∧
        (t.assembly.links.get φ).state = .down ∧ (t.assembly.links.get φ).control = .restart ∧
        (t.assembly.links.get φ).countdown = 0 ∧
        (t.assembly.links.get φ).serial = (s.assembly.links.get φ).serial ∧
        (t.assembly.links.get φ).reportedClass = (s.assembly.links.get φ).reportedClass ∧
        (t.assembly.links.get φ).invalidFrames = (s.assembly.links.get φ).invalidFrames ∧
        (t.assembly.links.get φ).lateFrames = (s.assembly.links.get φ).lateFrames ∧
        (∀ ψ, ψ ≠ φ → t.assembly.links.get ψ = s.assembly.links.get ψ) ∧
        ((s.assembly.links.get φ).state ≠ .down → Latched .linkChange t) ∧
        ((s.assembly.links.get φ).state = .down → t.engine.latches = s.engine.latches)) ∧
    (w.toNat < 1 ∨ 3 < w.toNat ∨ (s.assembly.phases = .one ∧ w ≠ 1#32) →
      exec (.linkRestart f w) s = .next (served f (plainReply .range) s)) ∧
    exec (.clearLinkCounters f) s = .next (served f doneReply { s with assembly := { s.assembly with
      links := .of fun φ => { s.assembly.links.get φ with invalidFrames := 0, lateFrames := 0 } } })

/-- At a ready part, from a port with WRITE on TIME. TIME SET of a day up to 65,535 and a second up to 86,399 makes
it the pending step, otherwise it is refused with RANGE. TIME ADJUST under an UNSET clock is refused with
CLOCK_UNSET; under a SET clock with no step pending, from -30 to 30 it sets the slew remainder to 4,000 times
its operand; beyond that, or with a step pending, it makes the base time plus the operand the pending step, or
is refused with RANGE when no meter time is that. Nothing else changes. That the base is the running second's
end time taken raw, day 65,535 second 86,400 in the last second of all, so that an operand above 30 is RANGE
there, is the model's choice (assumption log, 14). (R61, R62, R63) -/
def Obligations.ClockCommands : Prop :=
  ∀ (f : Sender) (a b : Word) (s : State), Ready s → MayWrite s f.port .timeSet →
    exec (.timeSet f a b) s = .next (
      if a.toNat ≤ 65535 ∧ b.toNat ≤ 86399 then
        served f doneReply { s with timeBase := { s.timeBase with step := some ⟨a.toNat, b.toNat⟩ } }
      else served f (plainReply .range) s) ∧
    (s.timeBase.set = false → exec (.timeAdjust f a) s = .next (served f (plainReply .clockUnset) s)) ∧
    (s.timeBase.set = true → s.timeBase.step = none → -30 ≤ a.toInt → a.toInt ≤ 30 →
      exec (.timeAdjust f a) s = .next (served f doneReply
        { s with timeBase := { s.timeBase with slew := a.toInt * 4000 } })) ∧
    (s.timeBase.set = true → (s.timeBase.step ≠ none ∨ a.toInt < -30 ∨ 30 < a.toInt) → ∀ base : Instant,
      (s.timeBase.step = some base ∨
        (s.timeBase.step = none ∧ base = ⟨s.timeBase.start.day, s.timeBase.start.second + 1⟩)) →
      (∀ new : Instant, new.day ≤ 65535 → new.second ≤ 86399 →
        (new.day * 86400 + new.second : Int) = base.day * 86400 + base.second + a.toInt →
        exec (.timeAdjust f a) s = .next (served f doneReply
          { s with timeBase := { s.timeBase with step := some new } })) ∧
      ((base.day * 86400 + base.second + a.toInt < 0 ∨
          65536 * 86400 ≤ base.day * 86400 + base.second + a.toInt) →
        exec (.timeAdjust f a) s = .next (served f (plainReply .range) s)))

/-- At a ready part, from a port R with WRITE on SCHEDULE, H being the holder: a new value other than NONE or R is
refused with RANGE; WRITE R takes a free claim and WRITE NONE releases R's own, either is DONE without effect
when it names H, and is refused with CLAIMED when another port holds it; an EXCHANGE that does not expect H
answers MISMATCH with H; an EXCHANGE that does takes a free claim or another port's, with CLAIM_LOST latched at
the port that lost it, leaves the state as it was when R holds the claim already, for every pending state (so
read from R82 and R83: assumption log, 27), releases R's own, and is refused with CLAIMED when it would release
another's. A claim taken copies the active schedule when the pending one is EMPTY, keeps its content otherwise,
removes the activation time and leaves EDITING. (R82, R83) -/
def Obligations.ClaimTable : Prop :=
  ∀ (f : Sender) (s : State), Ready s → MayWrite s f.port .claim →
    let mine := natWord (portCode f.port)
    let present := natWord (claimCode s.tariff.claim)
    let taken : Tariff := { s.tariff with
      claim := some f.port
      pending := if s.tariff.pendingState = .empty then s.tariff.active else s.tariff.pending
      pendingState := .editing, activation := none }
    let freed : State := { s with tariff := { s.tariff with claim := none } }
    (∀ v e, v ≠ 0#32 → v ≠ mine →
      exec (.stagingClaimWrite f v) s = .next (served f (plainReply .range) s) ∧
      exec (.stagingClaimExchange f e v) s = .next (served f (plainReply .range) s)) ∧
    (∀ e v, (v = 0#32 ∨ v = mine) → e ≠ present →
      exec (.stagingClaimExchange f e v) s = .next (served f ⟨.mismatch, .values [present]⟩ s)) ∧
    (s.tariff.claim = none →
      exec (.stagingClaimWrite f mine) s = .next (served f doneReply { s with tariff := taken }) ∧
      exec (.stagingClaimExchange f present mine) s = .next (served f doneReply { s with tariff := taken }) ∧
      exec (.stagingClaimWrite f 0#32) s = .next (served f doneReply s) ∧
      exec (.stagingClaimExchange f present 0#32) s = .next (served f doneReply s)) ∧
    (s.tariff.claim = some f.port →
      exec (.stagingClaimWrite f mine) s = .next (served f doneReply s) ∧
      exec (.stagingClaimExchange f present mine) s = .next (served f doneReply s) ∧
      exec (.stagingClaimWrite f 0#32) s = .next (served f doneReply freed) ∧
      exec (.stagingClaimExchange f present 0#32) s = .next (served f doneReply freed)) ∧
    (∀ q, q ≠ f.port → s.tariff.claim = some q →
      exec (.stagingClaimWrite f mine) s = .next (served f (plainReply .claimed) s) ∧
      exec (.stagingClaimWrite f 0#32) s = .next (served f (plainReply .claimed) s) ∧
      exec (.stagingClaimExchange f present 0#32) s = .next (served f (plainReply .claimed) s) ∧
      ∃ t, exec (.stagingClaimExchange f present mine) s = .next t ∧ t.tariff = taken ∧
        t.engine.latches.get q &&& eventSet .claimLost = eventSet .claimLost ∧
        ∀ r, r ≠ q → t.engine.latches.get r = s.engine.latches.get r)

/-- At a ready part, from a port with WRITE on SCHEDULE, by WRITE or by an EXCHANGE that expects the present value.
Without the claim every write of a pending item, and of the entry at a cursor on the PENDING copy, is refused
with CLAIMED; a WRITE at a cursor on no table or on FREEZE gives BAD_REQUEST and one on the ACTIVE copy DENIED.
The holder's write of the revision stores 0 to 65,535; of a list count cuts the list to that many entries, up to
its present count; of a week entry stores 0 to 255; of a special-day or switch entry replaces it, or appends it
at the count. Beyond these bounds it is refused with RANGE. The active schedule never changes. That a week entry
is judged by its whole 32-bit operand, and that an EXCHANGE at a cursor on no schedule table is refused as its
READ is, are the model's choices (assumption log, 24 and 26). (R85) -/
def Obligations.PendingScheduleWrites : Prop :=
  ∀ (f : Sender) (w : WriteForm) (v : Word) (s : State), Ready s → MayWrite s f.port .scheduleEntry →
    let c := s.tariff.pending
    let puts (o : Obj) : Prop := w = .write v ∨ ∃ old, readObject s f.port o = .value old ∧ w = .exchange old v
    let stored (x : Schedule) : State := served f doneReply { s with tariff := { s.tariff with pending := x } }
    let refused (x : ReplyCode) : State := served f (plainReply x) s
    (s.tariff.claim ≠ some f.port →
      (∀ i, puts (.pendingItem i) → ∀ target, targetObject target = .pendingItem i →
        exec (.pendingTableWrite f target w) s = .next (refused .claimed)) ∧
      (∀ i, s.engine.cursors.get f.port = .special .pending i ∨ s.engine.cursors.get f.port = .week .pending i ∨
          (∃ t, s.engine.cursors.get f.port = .switch t .pending i) →
        puts .scheduleEntry → exec (.pendingTableWrite f .entry w) s = .next (refused .claimed))) ∧
    (s.engine.cursors.get f.port = .unset ∨ (∃ i, s.engine.cursors.get f.port = .freeze i) →
      exec (.pendingTableWrite f .entry w) s = .next (refused .badRequest)) ∧
    (∀ i, s.engine.cursors.get f.port = .special .active i ∨ s.engine.cursors.get f.port = .week .active i ∨
        (∃ t, s.engine.cursors.get f.port = .switch t .active i) →
      puts .scheduleEntry → exec (.pendingTableWrite f .entry w) s = .next (refused .denied)) ∧
    (s.tariff.claim = some f.port →
      (puts (.pendingItem .revision) → exec (.pendingTableWrite f .revision w) s = .next (
        if v.toNat ≤ 65535 then stored { c with revision := v.toNat } else refused .range)) ∧
      (puts (.pendingItem .specialCount) → exec (.pendingTableWrite f .specialCount w) s = .next (
        if v.toNat ≤ c.special.length then stored { c with special := c.special.take v.toNat }
        else refused .range)) ∧
      (∀ t : Fin 4, puts (.pendingItem (.switchCount t)) →
        exec (.pendingTableWrite f (.switchCount t) w) s = .next (
          if v.toNat ≤ (c.switches.get t).length then
            stored { c with switches := c.switches.set t.val ((c.switches.get t).take v.toNat) t.isLt }
          else refused .range)) ∧
      (puts .scheduleEntry → ∀ i, ∀ h : i < 7, s.engine.cursors.get f.port = .week .pending i →
        exec (.pendingTableWrite f .entry w) s = .next (
          if v.toNat ≤ 255 then stored { c with week := c.week.set i v.toNat h } else refused .range)) ∧
      (puts .scheduleEntry → ∀ i, s.engine.cursors.get f.port = .special .pending i →
        exec (.pendingTableWrite f .entry w) s = .next (
          if v.toNat % 65536 ≤ 255 ∧ i ≤ c.special.length then
            stored { c with special := c.special.take i ++ ⟨v.toNat / 65536, v.toNat % 65536⟩ ::
              c.special.drop (i + 1) }
          else refused .range)) ∧
      (puts .scheduleEntry → ∀ i t, s.engine.cursors.get f.port = .switch t .pending i →
        exec (.pendingTableWrite f .entry w) s = .next (
          if v.toNat % 65536 ≤ 255 ∧ i ≤ (c.switches.get t).length then
            stored { c with switches := c.switches.set t.val ((c.switches.get t).take i ++
              ⟨v.toNat / 65536, v.toNat % 65536⟩ :: (c.switches.get t).drop (i + 1)) t.isLt }
          else refused .range)))

/-- At a ready part, from a port with WRITE on SCHEDULE. ARM without the claim is refused with CLAIMED; with it, an
operand out of range is refused with RANGE; a valid record becomes ARMED with its activation time and the claim
NONE; a record whose week table's first entry holds a day type above 3 is refused with RANGE and the two values
1 and 0. DISARM from the utility port takes ARMED back to EDITING with its content and changes nothing in other
states; from other ports it is DENIED. DISCARD, from the holder or from the utility port with no holder, leaves
EMPTY, no activation time and no claim; otherwise CLAIMED. (R86, R87, R88) -/
def Obligations.ArmDisarmDiscard : Prop :=
  ∀ (f : Sender) (day minute : Word) (s : State), Ready s → MayWrite s f.port .arm →
    (s.tariff.claim ≠ some f.port → exec (.arm f day minute) s = .next (served f (plainReply .claimed) s)) ∧
    (s.tariff.claim = some f.port → (65535 < day.toNat ∨ 1439 < minute.toNat) →
      exec (.arm f day minute) s = .next (served f (plainReply .range) s)) ∧
    (s.tariff.claim = some f.port → day.toNat ≤ 65535 → minute.toNat ≤ 1439 →
      (∀ i, s.tariff.pending.week.get i ≤ 3) →
      (∀ e ∈ s.tariff.pending.special, e.dayType ≤ 3) →
      (s.tariff.pending.special.map SpecialDay.day).Pairwise (· < ·) →
      (∀ t : Fin 4, ((s.tariff.pending.switches.get t).map Switch.minute).Pairwise (· < ·) ∧
        ∀ w ∈ s.tariff.pending.switches.get t, w.minute ≤ 1439 ∧ 1 ≤ w.band ∧ w.band ≤ 6) →
      exec (.arm f day minute) s = .next (served f doneReply { s with tariff := { s.tariff with
        activation := some ⟨day.toNat, minute.toNat⟩, pendingState := .armed, claim := none } })) ∧
    (s.tariff.claim = some f.port → day.toNat ≤ 65535 → minute.toNat ≤ 1439 →
      3 < s.tariff.pending.week.get 0 →
      exec (.arm f day minute) s = .next (served f ⟨.range, .values [1#32, 0#32]⟩ s)) ∧
    exec (.disarm f) s = .next (
      if f.port ≠ .utility then served f (plainReply .denied) s
      else if s.tariff.pendingState = .armed then
        served f doneReply { s with tariff := { s.tariff with activation := none, pendingState := .editing } }
      else served f doneReply s) ∧
    exec (.discard f) s = .next (
      if s.tariff.claim = some f.port ∨ (f.port = .utility ∧ s.tariff.claim = none) then
        served f doneReply { s with tariff := { s.tariff with
          pendingState := .empty, activation := none, claim := none } }
      else served f (plainReply .claimed) s)

/-- At a ready part, from a port with WRITE on FREEZE: in TEST, or while a command freeze is pending, FREEZE is
refused with BUSY and changes nothing; otherwise the pending command freeze takes the next freeze number, that
number rises by one (4,294,967,295 is followed by 1), and the answer is DONE with the announced number. Without
WRITE it is refused with DENIED. In every state of the store and the engine, the next dispatch taken, whatever
its flag and mark, puts a COMMAND record with the announced number in the list, before a scheduled one with the
number after it, and leaves no command freeze pending. (R91) -/
def Obligations.FreezeAnnounces : Prop :=
  ∀ (f : Sender) (s : State),
    (Ready s → ¬ MayWrite s f.port .freeze → exec (.freeze f) s = .next (served f (plainReply .denied) s)) ∧
    (Ready s → MayWrite s f.port .freeze → (s.pulse.test = true ∨ s.tariff.pendingFreeze ≠ none) →
      exec (.freeze f) s = .next (served f (plainReply .busy) s)) ∧
    (Ready s → MayWrite s f.port .freeze → s.pulse.test = false → s.tariff.pendingFreeze = none →
      exec (.freeze f) s = .next (served f (doneWith [natWord s.tariff.nextFreeze])
        { s with tariff := { s.tariff with
          pendingFreeze := some s.tariff.nextFreeze
          nextFreeze := if 4294967295 ≤ s.tariff.nextFreeze then 1 else s.tariff.nextFreeze + 1 } })) ∧
    (∀ n d ds, s.tariff.pendingFreeze = some n → s.wires.toTariff = d :: ds →
      ∃ t, exec .tariffDispatch s = .next t ∧ t.tariff.pendingFreeze = none ∧
        ∃ newer older r, t.tariff.freezes = newer ++ r :: older ∧ r.number = n ∧ r.cause = .command ∧
          r.time = d.finish ∧ r.registers = t.tariff.registers ∧ newer.length ≤ 2 ∧
          ∀ x ∈ newer, x.cause ≠ .command ∧ (x.cause = .scheduled → x.number = s.tariff.nextFreeze))

/-- At a ready part, from a port with READ on LOG. LOG START OLDEST and NEWEST set the port's context READING at the
oldest and the newest held record with gap 0, at N on an empty log; LOG STOP makes it IDLE; LOG START AT refuses
0 and a number above one past the newest with RANGE, starts at the number within the held range with gap 0, and
below it at the oldest record with the records missed as gap. READ NEXT in IDLE is refused with BAD_REQUEST; at
a held record it answers gap and record, moves one on and clears the gap; past the newest it answers EMPTY with
the gap and changes nothing. (R105 to R109) -/
def Obligations.ContextCommands : Prop :=
  ∀ (f : Sender) (n : Word) (s : State), Ready s → MayRead s f.port .startAt → LogLaw s →
    let at' (c : Context) : State := { s with log := { s.log with contexts := s.log.contexts.set f.port c } }
    let c := s.log.contexts.get f.port
    exec (.logStop f) s = .next (served f doneReply (at' ⟨false, 0, 0⟩)) ∧
    (s.log.records = [] →
      exec (.logStartOldest f) s = .next (served f doneReply (at' ⟨true, s.log.next, 0⟩)) ∧
      exec (.logStartNewest f) s = .next (served f doneReply (at' ⟨true, s.log.next, 0⟩))) ∧
    (∀ first last between, (s.log.records = [first] ∧ last = first ∨ s.log.records = first :: between ++ [last]) →
      exec (.logStartOldest f) s = .next (served f doneReply (at' ⟨true, first.sequence, 0⟩)) ∧
      exec (.logStartNewest f) s = .next (served f doneReply (at' ⟨true, last.sequence, 0⟩)) ∧
      exec (.logStartAt f n) s = .next (
        if n.toNat = 0 ∨ last.sequence + 1 < n.toNat then served f (plainReply .range) s
        else if n.toNat < first.sequence then
          served f doneReply (at' ⟨true, first.sequence, min 4294967295 (first.sequence - n.toNat)⟩)
        else served f doneReply (at' ⟨true, n.toNat, 0⟩))) ∧
    (c.reading = false → exec (.readNext f) s = .next (served f (plainReply .badRequest) s)) ∧
    (∀ r ∈ s.log.records, c.reading = true → c.next = r.sequence →
      exec (.readNext f) s = .next (served f ⟨.done, .interval c.gap r⟩ (at' ⟨true, r.sequence + 1, 0⟩))) ∧
    (c.reading = true → (∀ r ∈ s.log.records, r.sequence < c.next) →
      exec (.readNext f) s = .next (served f ⟨.empty, .values [natWord c.gap]⟩ s))

/-- At a ready part, from a port with WRITE on SERVICE. TOTALS CLEAR sets A1, A2, A3, the sum accumulator and all
eight totals to 0 and changes nothing else: the test accumulator, the basis, the registers and the tally stay.
LOG CLEAR from the service port on a COMMITTING log is refused with BUSY; on a READY log it removes every
record, sets all three contexts IDLE, leaves N as it was, latches nothing, and joins the commit queue so that
the log is COMMITTING. From the utility or premises port it is refused with DENIED. (R52, R112) -/
def Obligations.TotalsAndLogClear : Prop :=
  ∀ (f : Sender) (s : State), Ready s → MayWrite s f.port .logClear →
    exec (.totalsClear f) s = .next (served f doneReply { s with netting := { s.netting with
      accumulators := ⟨⟨0, 0, 0⟩, 0⟩, totals := ⟨⟨0, 0, 0⟩, ⟨0, 0, 0⟩, 0, 0⟩ } }) ∧
    exec (.logClear f) s = .next (
      if f.port ≠ .service then served f (plainReply .denied) s
      else if s.log.queue ≠ [] then served f (plainReply .busy) s
      else served f doneReply { s with log := { s.log with
        records := [], contexts := ⟨⟨false, 0, 0⟩, ⟨false, 0, 0⟩, ⟨false, 0, 0⟩⟩
        queue := [.clear ⟨[], s.log.next⟩] } })

/-- At a ready part, from a port with WRITE on TEST. From the service port with the enable CLOSED: TEST ON in NORMAL
enters TEST with test counters, pending count and dropped count 0 and the timer at timeout x 240,000 strobes,
and latches TEST_MODE_CHANGE; in TEST it sets the timer again and changes nothing else; TEST OFF in TEST leaves
NORMAL, pending count 0, timer 0 and cause COMMAND, keeps the counters, the dropped count and the generator, and
latches TEST_MODE_CHANGE; in NORMAL it changes nothing. From any other port both are refused with DENIED. (R137,
R140) -/
def Obligations.TestModeCommands : Prop :=
  ∀ (f : Sender) (s : State), Ready s → MayWrite s f.port .testOn →
    (f.port ≠ .service →
      exec (.testOn f) s = .next (served f (plainReply .denied) s) ∧
      exec (.testOff f) s = .next (served f (plainReply .denied) s)) ∧
    (f.port = .service → s.engine.enable = true → s.pulse.test = false →
      (∃ t, exec (.testOn f) s = .next t ∧ Latched .testModeChange t ∧ t.pulse = { s.pulse with
        test := true, testImport := 0, testExport := 0, pendingCount := 0, dropped := 0
        timer := s.pulse.timeout * 240000 }) ∧
      exec (.testOff f) s = .next (served f doneReply s)) ∧
    (f.port = .service → s.engine.enable = true → s.pulse.test = true →
      exec (.testOn f) s = .next (served f doneReply
        { s with pulse := { s.pulse with timer := s.pulse.timeout * 240000 } }) ∧
      ∃ t, exec (.testOff f) s = .next t ∧ Latched .testModeChange t ∧ t.pulse = { s.pulse with
        test := false, pendingCount := 0, timer := 0, lastExit := .command })

/-- At a ready part, from a port with WRITE on SERVICE. RESTART from the utility port, or from the service port
under a closed enable, is answered DONE and leaves the store SAVING with cause RESTART, no open sample set,
every control slot empty and no request waiting; from the premises port it is refused with DENIED. CLEAR ALL
does the same with cause CLEAR_ALL from the service port under a closed enable, and is refused with DENIED from
the utility and premises ports. (R145, R154, R155) -/
def Obligations.RestartAndClearAll : Prop :=
  ∀ (f : Sender) (s : State), Ready s → MayWrite s f.port .restart →
    let entered (cause : SaveCause) (t : State) : Prop :=
      t.store.state = .saving ∧ t.store.cause = cause ∧ t.assembly.openSets = [] ∧
        (∀ φ, (t.assembly.links.get φ).control = .empty) ∧ t.engine.queues = .all [] ∧
        (t.engine.outbox.get f.port).getLast? = some (.executed f.tag doneReply) ∧
        t.tariff = s.tariff ∧ t.netting = s.netting ∧ t.log = s.log ∧ t.interval = s.interval ∧
        t.envelope = s.envelope ∧ t.pulse = s.pulse ∧ t.timeBase = s.timeBase
    (f.port = .premises → exec (.restart f) s = .next (served f (plainReply .denied) s)) ∧
    ((f.port = .utility ∨ (f.port = .service ∧ s.engine.enable = true)) →
      ∃ t, exec (.restart f) s = .next t ∧ entered .restart t) ∧
    (f.port ≠ .service → exec (.clearAll f) s = .next (served f (plainReply .denied) s)) ∧
    (f.port = .service → s.engine.enable = true →
      ∃ t, exec (.clearAll f) s = .next t ∧ entered .clearAll t)

/-- At a ready part. A READ of the latch object with count 1, from a port with READ on EVENTS, answers the port's
latch set, empties it and no other port's, and leaves its attention line inactive. From a port with WRITE on
EVENTS, a WRITE of the enable object replaces its set, a MODIFY changes the masked members and answers the new
set, and an EXCHANGE that expects the present set acts as a WRITE; a position without a member is refused with
RANGE; the line is set from the two sets. (R170 to R172) -/
def Obligations.LatchAndEnable : Prop :=
  ∀ (f : Sender) (s : State), Ready s →
    (MayRead s f.port .latch → ∃ t, exec (.latchRead f 1#8) s = .next t ∧
      (t.engine.outbox.get f.port).getLast? =
        some (.executed f.tag (doneWith [eventWord (s.engine.latches.get f.port)])) ∧
      t.engine.latches.get f.port = 0#15 ∧ t.engine.lines.get f.port = false ∧
      ∀ q, q ≠ f.port → t.engine.latches.get q = s.engine.latches.get q) ∧
    (MayWrite s f.port .enable → ∀ x : EventSet, ∀ w : SetForm,
      (w = .write (eventWord x) ∨ w = .exchange (eventWord (s.engine.enables.get f.port)) (eventWord x)) →
      ∃ t, exec (.enableSetWrite f w) s = .next t ∧
        (t.engine.outbox.get f.port).getLast? = some (.executed f.tag doneReply) ∧
        t.engine.enables = s.engine.enables.set f.port x ∧ t.engine.latches = s.engine.latches ∧
        (t.engine.lines.get f.port = true ↔ s.engine.latches.get f.port &&& x ≠ 0#15)) ∧
    (MayWrite s f.port .enable → ∀ m x : EventSet,
      let new : EventSet := (s.engine.enables.get f.port &&& ~~~m) ||| (x &&& m)
      ∃ t, exec (.enableSetWrite f (.modify (eventWord m) (eventWord x))) s = .next t ∧
        (t.engine.outbox.get f.port).getLast? = some (.executed f.tag (doneWith [eventWord new])) ∧
        t.engine.enables = s.engine.enables.set f.port new ∧ t.engine.latches = s.engine.latches ∧
        (t.engine.lines.get f.port = true ↔ s.engine.latches.get f.port &&& new ≠ 0#15)) ∧
    (MayWrite s f.port .enable → ∀ v m : Word, 32768 ≤ v.toNat →
      exec (.enableSetWrite f (.write v)) s = .next (served f (plainReply .range) s) ∧
      exec (.enableSetWrite f (.modify v m)) s = .next (served f (plainReply .range) s) ∧
      exec (.enableSetWrite f (.modify m v)) s = .next (served f (plainReply .range) s))

/-- At a ready part. From the utility port a WRITE of a premises or service right (or an EXCHANGE that expects the
present right) stores NONE, READ or WRITE for 0, 1 and 2, refuses other operands with RANGE, and changes no
other entry of the map; from another port with WRITE on RIGHTS it is refused with DENIED, and so is a write of
the utility row. When the write ends the premises port's WRITE on SCHEDULE while that port holds the claim, the
claim becomes NONE, CLAIM_LOST is latched at that port, and the pending schedule stays as it was. (R84, R166,
R167) -/
def Obligations.RightsWrites : Prop :=
  ∀ (f : Sender) (row : Port) (g : Group) (w : WriteForm) (v : Word) (s : State), Ready s →
    MayWrite s f.port (.right row g) → Puts w (natWord (rightCode (mapRight s.engine row g))) v →
    (row = .utility ∨ f.port ≠ .utility →
      exec (.rightsWrite f row g w) s = .next (served f (plainReply .denied) s)) ∧
    (f.port = .utility → row ≠ .utility → 2 < v.toNat →
      exec (.rightsWrite f row g w) s = .next (served f (plainReply .range) s)) ∧
    (f.port = .utility → row ≠ .utility → ∀ r, v = natWord (rightCode r) →
      ∃ t, exec (.rightsWrite f row g w) s = .next t ∧ mapRight t.engine row g = r ∧
        (∀ q h, (q, h) ≠ (row, g) → mapRight t.engine q h = mapRight s.engine q h) ∧
        t.tariff.pending = s.tariff.pending ∧ t.tariff.pendingState = s.tariff.pendingState ∧
        (g ≠ .schedule → t.tariff = s.tariff ∧ t.engine.latches = s.engine.latches) ∧
        (row = .premises → g = .schedule → mapRight s.engine .premises .schedule = .write → r ≠ .write →
          s.tariff.claim = some .premises →
          t.tariff.claim = none ∧
            t.engine.latches.get .premises &&& eventSet .claimLost = eventSet .claimLost))

/-- At a ready part. A CHECK of a value object from a port with READ on its group answers MATCH when present and
expected value agree in every position of the mask, MISMATCH otherwise, with the present value in both cases,
and changes nothing, the latch object included. An EXCHANGE of a writable object other than the claim, from a
port with WRITE on its group, answers MISMATCH with the present value and changes nothing when it does not
expect that value, and acts as the WRITE of its new value when it does. (R162, R163) -/
def Obligations.CheckAndMismatch : Prop :=
  ∀ (f : Sender) (o : Obj) (present e x : Word) (s : State), Ready s →
    readObject s f.port o = .value present →
    (MayRead s f.port o →
      exec (.check f (BitVec.ofNat 16 o.number) e x) s = .next (served f
        ⟨if present &&& x = e &&& x then .matched else .mismatch, .values [present]⟩ s)) ∧
    (MayWrite s f.port o → (o.access = .readWrite ∨ o = .enable) → o ≠ .claim →
      exec (.registerWrite f (BitVec.ofNat 16 o.number) (.exchange e x)) s =
        if e = present then exec (.registerWrite f (BitVec.ofNat 16 o.number) (.write x)) s
        else .next (served f ⟨.mismatch, .values [present]⟩ s))

/-- At a ready part, from a port with READ on the cursor's group. SELECT on the SCHEDULE cursor with table code 2,
copy code 0 or 1 and an index below 24 sets SPECIAL of that copy; with table code 1 and an index below 7, WEEK;
with table code 3 + t and an index below 8, SWITCH t. SELECT on the FREEZE cursor with table code 7 and an index
below 12 sets FREEZE. The copy code is not used there. A table code that names none or a table of the other
cursor's group, a copy code that names none on the SCHEDULE cursor, and an index at the bound or above are
refused with RANGE. No other port's cursor changes, and nothing else does. (R164) -/
def Obligations.CursorSelection : Prop :=
  ∀ (f : Sender) (i : Word) (s : State), Ready s →
    let set' (c : Cursor) : State := { s with engine := { s.engine with cursors := s.engine.cursors.set f.port c } }
    (MayRead s f.port .scheduleCursor → ∀ (copy : ScheduleCopy) (code : Nat),
      code = (match copy with | .active => 0 | .pending => 1) →
      exec (.tableCursorSelect f .schedule (natWord (1 + 256 * code)) i) s = .next (
        if i.toNat < 7 then served f doneReply (set' (.week copy i.toNat)) else served f (plainReply .range) s) ∧
      exec (.tableCursorSelect f .schedule (natWord (2 + 256 * code)) i) s = .next (
        if i.toNat < 24 then served f doneReply (set' (.special copy i.toNat))
        else served f (plainReply .range) s) ∧
      (∀ t : Fin 4, exec (.tableCursorSelect f .schedule (natWord (3 + t.val + 256 * code)) i) s = .next (
        if i.toNat < 8 then served f doneReply (set' (.switch t copy i.toNat))
        else served f (plainReply .range) s)) ∧
      exec (.tableCursorSelect f .schedule (natWord (7 + 256 * code)) i) s =
        .next (served f (plainReply .range) s) ∧
      ∀ t k : Nat, t < 256 → k < 16777216 → (t = 0 ∨ 7 ≤ t ∨ 2 ≤ k) →
        exec (.tableCursorSelect f .schedule (natWord (t + 256 * k)) i) s =
          .next (served f (plainReply .range) s)) ∧
    (MayRead s f.port .freezeCursor →
      exec (.tableCursorSelect f .freeze 7#32 i) s = .next (
        if i.toNat < 12 then served f doneReply (set' (.freeze i.toNat)) else served f (plainReply .range) s) ∧
      ∀ t k : Nat, t < 256 → k < 16777216 → exec (.tableCursorSelect f .freeze (natWord (t + 256 * k)) i) s = .next (
        if t = 7 ∧ i.toNat < 12 then served f doneReply (set' (.freeze i.toNat))
        else served f (plainReply .range) s))

/-- At a ready part: a write of a number outside the object table is answered NO_OBJECT; a WRITE or EXCHANGE of a
read-only object is refused with DENIED whatever the rights; a WRITE of two operands to any object is refused
with BAD_REQUEST (so read from the object table, which has no object of two operands: assumption log, 28); a
WRITE of a command or cursor object is refused with BAD_REQUEST. From a port with WRITE on IDENT a WRITE of
either half of the meter identity stores the operand and is answered DONE. A refused request changes nothing.
(R160, R162) -/
def Obligations.RegisterWriteStages : Prop :=
  ∀ (f : Sender) (v x : Word) (s : State), Ready s →
    (∀ n : BitVec 16, objectNamed n.toNat = none →
      exec (.registerWrite f n (.write v)) s = .next (served f (plainReply .noObject) s) ∧
      exec (.registerWrite f n (.exchange v x)) s = .next (served f (plainReply .noObject) s)) ∧
    (∀ o : Obj, o.access = .readOnly →
      exec (.registerWrite f (BitVec.ofNat 16 o.number) (.write v)) s = .next (served f (plainReply .denied) s) ∧
      exec (.registerWrite f (BitVec.ofNat 16 o.number) (.exchange v x)) s =
        .next (served f (plainReply .denied) s)) ∧
    (∀ o : Obj, exec (.registerWrite f (BitVec.ofNat 16 o.number) (.writeTwo v x)) s =
      .next (served f (plainReply .badRequest) s)) ∧
    (∀ o : Obj, o.access = .command ∨ o.access = .cursor →
      exec (.registerWrite f (BitVec.ofNat 16 o.number) (.write v)) s =
        .next (served f (plainReply .badRequest) s)) ∧
    (MayWrite s f.port .identityUpper →
      exec (.registerWrite f 0x0002#16 (.write v)) s =
        .next (served f doneReply { s with identity := ⟨v, s.identity.lower⟩ }) ∧
      exec (.registerWrite f 0x0003#16 (.write v)) s =
        .next (served f doneReply { s with identity := ⟨s.identity.upper, v⟩ }))

/-- At a ready part, a request of any kind in the right form, fit for its object and of a port whose effective right
on the object's group is NONE is answered DENIED, and changes nothing but the engine's record of it. While the
enable is OPEN the service port never has an effective WRITE. (R160, R166) -/
def Obligations.UnreadablePortDenied : Prop :=
  (∀ (f : Sender) (k : Kind) (o : Obj) (r : Request) (s : State), Ready s →
    effectiveRight s.engine f.port o.group = .none → r.tag = f.tag → r.kind = kindCode k →
    r.object = BitVec.ofNat 16 o.number → formOk k r = true → fits k o r = true →
    submit f.port r s = served f (plainReply .denied) s) ∧
  ∀ (g : Engine) (x : Group), g.enable = false → effectiveRight g .service x ≠ .write

/-- For every state, every request and every port whose effective right is WRITE on no group: the request's
execution leaves every block as it was, except the port's own read context in the log, and in the engine its own
table cursor and its own latch set with the attention lines (and the model's counter of free values, assumption
log, 3). So a household or a technician with read rights alone can alter no register, setting, schedule, limit
or mode of the part. (R160, R166) -/
def Obligations.ReadOnlyPortIsolated : Prop :=
  ∀ (p : Port) (r : Request) (s : State), (∀ g, effectiveRight s.engine p g ≠ .write) →
    ∃ (c : Context) (u : Cursor) (l : EventSet) (lines : PerPort Bool) (n : Nat),
      (executeRequest p r s).1 = { s with
        log := { s.log with contexts := s.log.contexts.set p c }
        engine := { s.engine with
          cursors := s.engine.cursors.set p u, latches := s.engine.latches.set p l, lines := lines }
        freeCount := n }

/-- For every command c and every state s, a step of s with c at the front of its queue is exec of c on s with the
queue's rest; with no command waiting a step answers the state unchanged. That the part idles there is the
model's choice (assumption log, 7). (section 10.2) -/
def Obligations.StepTakesFront : Prop :=
  (∀ (c : Instr) (rest : List Instr) (s : State),
    step { s with pending := c :: rest } = exec c { s with pending := rest }) ∧
  ∀ s : State, s.pending = [] → step s = .next s

/-- Every request command carries one request with its sender's tag. Outside RUNNING its frame is ignored. At a
ready part it is executed at once: the engine is SENDING for its port, the pointer names that port, no request
waits, and the last answer formed there is the executed one with that tag. While the engine is SENDING in
RUNNING it waits at the end of its port's queue while fewer than three wait there; at three it is answered FULL
with its tag, or dropped while a FULL answer of that port is unsent; nothing else changes. The front end is in
HUNT after each. From every state every command, request or event, answers a next state, and leaves the commands
that wait as they were. That a request command is the arrival of its whole frame, and that a command whose
condition does not hold is no event, are the model's choices (assumption log, 2 and 1). (R145, R156, R157, R159) -/
def Obligations.RequestsTakenOrQueued : Prop :=
  ∀ c : Instr,
    (∀ s, ∃ t, exec c s = .next t ∧ t.pending = s.pending) ∧
    ∀ f, requestSender c = some f → ∃ r : Request, r.tag = f.tag ∧ ∀ s : State,
      let hunting : State := { s with engine := { s.engine with
        frontEnds := s.engine.frontEnds.set f.port .hunt } }
      (s.store.state ≠ .running → exec c s = .next s) ∧
      (Ready s → ∃ t reply, exec c s = .next t ∧ t.engine.state = .sending f.port ∧
        t.engine.pointer = f.port ∧ t.engine.frontEnds.get f.port = .hunt ∧ t.engine.queues = .all [] ∧
        (t.engine.outbox.get f.port).getLast? = some (.executed f.tag reply)) ∧
      (s.store.state = .running → ∀ q, s.engine.state = .sending q →
        ((s.engine.queues.get f.port).length < 3 → exec c s = .next
          { hunting with engine := { hunting.engine with
            queues := s.engine.queues.set f.port (s.engine.queues.get f.port ++ [r]) } }) ∧
        (3 ≤ (s.engine.queues.get f.port).length →
          ((∀ g, Answer.full g ∉ s.engine.outbox.get f.port) → exec c s = .next
            { hunting with engine := { hunting.engine with
              outbox := s.engine.outbox.set f.port (s.engine.outbox.get f.port ++ [.full f.tag]) } }) ∧
          ((∃ g, Answer.full g ∈ s.engine.outbox.get f.port) → exec c s = .next hunting)))

/-- The state after reset: three phases in use with links DOWN, class 2 and quality LOST; unit gains, offsets 0,
creep threshold 50; accumulators and totals 0, basis VECTOR; day 0, second 0, UNSET, a second of 4,000; a length
of 15 min and a tally with power-lost; registers 0, both schedules of revision 0 with day types 0 and no entry,
the pending one EMPTY, next freeze number 1; an empty log with N = 1; term LAPSED, fallback 5,000 W, site
UNLIMITED, G 5, B 200, H 30; pulses 40 ms and 40 ms, NORMAL, D 100, T 30; the rights of Table 10-5; RESTORED
latched. The conditions of the five invariants hold there. That reset is the state after the first COLD restore,
RUNNING with SUPOK high and CALEN open, is the model's choice (assumption log, 6). (section 1.6, section 2.6,
section 3.8, section 4.7, section 5.7, section 6.9, section 7.7, section 8.5, section 10.6) -/
def Obligations.ResetCold : Prop :=
  let s := State.reset
  s.pending = [] ∧ s.store.state = .running ∧ s.store.lastKind = .cold ∧ s.store.outage = none ∧
  s.assembly.phases = .three ∧ s.assembly.strobe = 0#8 ∧ s.assembly.openSets = [] ∧
  (∀ φ, (s.assembly.links.get φ).state = .down ∧ (s.assembly.links.get φ).configuredClass = 2 ∧
    (s.assembly.links.get φ).countdown = 0 ∧ (s.assembly.links.get φ).invalidFrames = 0 ∧
    (s.assembly.links.get φ).lateFrames = 0 ∧ (s.assembly.links.get φ).serial = 0#32 ∧
    (s.assembly.links.get φ).reportedClass = 0 ∧ (s.assembly.links.get φ).control = .empty ∧
    (s.assembly.links.get φ).missingRun = 0 ∧ s.assembly.substitutionRun.get φ = 0 ∧
    s.assembly.quality.get φ = .lost ∧ s.metrology.running.sum.get φ = 0 ∧ s.metrology.live.power.get φ = 0 ∧
    s.metrology.live.creep.get φ = false ∧ s.metrology.live.quality.get φ = .lost ∧
    s.metrology.calibration.get φ = ⟨32768, 32768, 0, 0⟩ ∧ s.metrology.mean.get φ = 0 ∧
    s.netting.accumulators.phase.get φ = 0 ∧ s.netting.totals.phaseImport.get φ = 0 ∧
    s.netting.totals.phaseExport.get φ = 0) ∧
  s.metrology.creepThreshold = 50 ∧ s.metrology.live.valid = false ∧ s.metrology.running.sets = 0 ∧
  s.metrology.notices = [] ∧ s.metrology.heldSets = [] ∧ s.netting.held = [] ∧ s.netting.awaiting = false ∧
  s.netting.accumulators.sum = 0 ∧ s.netting.testAccumulator = 0 ∧ s.netting.basis = .vector ∧
  s.netting.pendingBasis = none ∧ s.netting.totals.sumImport = 0 ∧ s.netting.totals.sumExport = 0 ∧
  s.timeBase = ⟨⟨0, 0⟩, false, 4000, 0, 0, none⟩ ∧
  s.interval.length = 15 ∧ s.interval.pendingLength = none ∧ s.interval.tally.flags.powerLost = true ∧
  s.interval.tally.flags.checkpoint = false ∧ s.interval.tally.seconds = 0 ∧ s.interval.tally.length = 15 ∧
  s.interval.tally.start = ⟨0, 0, false⟩ ∧ s.interval.summaries = [] ∧ s.interval.statuses = [] ∧
  s.interval.dispatch = none ∧
  (∀ x : Schedule, x = s.tariff.active ∨ x = s.tariff.pending → x.revision = 0 ∧ x.special = [] ∧
    (∀ i, x.week.get i = 0) ∧ ∀ i, x.switches.get i = []) ∧ s.tariff.activation = none ∧
  (∀ b, s.tariff.registers.imported.get b = 0 ∧ s.tariff.registers.exported.get b = 0) ∧
  s.tariff.pendingState = .empty ∧ s.tariff.claim = none ∧ s.tariff.freezes = [] ∧ s.tariff.nextFreeze = 1 ∧
  s.tariff.pendingFreeze = none ∧ s.tariff.freezeDay = 0 ∧ s.tariff.freezeReference = none ∧
  s.tariff.freezeOnActivation = false ∧ s.tariff.lastFiling = none ∧
  s.log.records = [] ∧ s.log.next = 1 ∧ s.log.queue = [] ∧ s.log.committed = ⟨[], 1⟩ ∧ (∀ p, s.log.contexts.get p = ⟨false, 0, 0⟩) ∧
  s.envelope.term = ⟨false, .watts 0, 0⟩ ∧ s.envelope.fallback = .watts 5000 ∧ s.envelope.site = .unlimited ∧
  s.envelope.grace = 5 ∧ s.envelope.band = 200 ∧ s.envelope.hold = 30 ∧ s.envelope.activeHigh = true ∧
  s.envelope.monitor = ⟨.clear, .none, 0, 0⟩ ∧ s.envelope.line = false ∧ s.envelope.last.evaluated = false ∧
  s.pulse.source = .absolute ∧ s.pulse.activeWidth = 40 ∧ s.pulse.gapWidth = 40 ∧ s.pulse.generator = .idle ∧
  s.pulse.pendingCount = 0 ∧ s.pulse.dropped = 0 ∧ s.pulse.test = false ∧ s.pulse.timer = 0 ∧
  s.pulse.testImport = 0 ∧ s.pulse.testExport = 0 ∧ s.pulse.divisor = 100 ∧ s.pulse.timeout = 30 ∧
  s.pulse.lastExit = .none ∧
  s.engine.rights.premises.toList = [.read, .read, .none, .none, .none, .read, .none, .none, .read, .write, .read,
    .read, .none, .write, .none, .none] ∧
  s.engine.rights.service.toList = [.read, .read, .write, .write, .read, .read, .write, .write, .read, .read,
    .read, .read, .write, .read, .read, .write] ∧ s.engine.pointer = .service ∧ s.engine.state = .idle ∧
  (∀ p, s.engine.queues.get p = [] ∧ s.engine.frontEnds.get p = .hunt ∧ s.engine.cursors.get p = .unset ∧
    s.engine.enables.get p = 0#15 ∧ s.engine.latches.get p = eventSet .restored ∧ s.engine.lines.get p = false) ∧
  LinesAgree s ∧ LineFollowsMonitor s ∧ PulsesBounded s ∧ ClaimEdits s ∧ EngineLaw s ∧ WhBounded s ∧
  AccumulatorLaw s ∧ LogLaw s ∧ SettingsLegal s

/-- In RUNNING, strobe n leaves set n-2 closed and set n the newest open set with an empty slot for each phase in
use, and the next strobe number n + 1. A DISABLED link sends nothing; another sends the strobe frame, then a
RESTART when its slot held one, leaving the slot empty. In DOWN or MISMATCH without a RESTART, a countdown of 0
sends an IDENTIFY and becomes 3,999, one above 0 falls by one; with a RESTART it stays. A LOCKED link whose slot
is in time sends the strobe alone; one whose missing run reaches 32 goes DOWN and sends its IDENTIFY with this
strobe. The blocks behind the time base do not change. Outside RUNNING nothing is issued. (R1, R2, R9) -/
def Obligations.StrobeIssue : Prop :=
  ∀ s : State,
    (s.store.state ≠ .running → exec .strobeIssue s = .next s) ∧
    (s.store.state = .running → ∃ t, exec .strobeIssue s = .next t ∧
      t.assembly.strobe = s.assembly.strobe + 1#8 ∧
      t.assembly.openSets.map OpenSet.number =
        (s.assembly.openSets.map OpenSet.number).filter (fun k => k != s.assembly.strobe - 2#8) ++
          [s.assembly.strobe] ∧
      (∃ o, t.assembly.openSets.getLast? = some o ∧ o.number = s.assembly.strobe ∧
        ∀ φ, o.slots.get φ = if s.assembly.phases = .three ∨ φ = .p1 then .empty else .absent) ∧
      (∀ φ, let l := s.assembly.links.get φ
        let r := t.assembly.links.get φ
        let frames := t.assembly.sent.get φ
        let strobe := strobeFrame s.assembly.strobe
        (l.state = .disabled → frames = [] ∧ r = l) ∧
        (l.state ≠ .disabled → l.control = .restart → frames = [strobe, restartFrame] ∧ r.control = .empty) ∧
        ((l.state = .down ∨ l.state = .mismatch) → l.control = .restart →
          r = { l with control := .empty }) ∧
        ((l.state = .down ∨ l.state = .mismatch) → l.control = .empty → l.countdown = 0 →
          frames = [strobe, identifyFrame] ∧ r = { l with countdown := 3999 }) ∧
        ((l.state = .down ∨ l.state = .mismatch) → l.control = .empty → 0 < l.countdown →
          frames = [strobe] ∧ r = { l with countdown := l.countdown - 1 }) ∧
        (l.state = .locked → l.control = .empty → setToClose s = none → frames = [strobe] ∧ r = l) ∧
        (∀ o, l.state = .locked → l.control = .empty → setToClose s = some o →
          (∀ x, o.slots.get φ = .filled x → frames = [strobe] ∧ r = { l with missingRun := 0 }) ∧
          ((∀ x, o.slots.get φ ≠ .filled x) → l.missingRun + 1 < 32 →
            frames = [strobe] ∧ r = { l with missingRun := l.missingRun + 1 }) ∧
          ((∀ x, o.slots.get φ ≠ .filled x) → 32 ≤ l.missingRun + 1 →
            frames = [strobe, identifyFrame] ∧ Latched .linkChange t ∧
              r = { l with state := .down, missingRun := 0, countdown := 3999 }))) ∧
      t.identity = s.identity ∧ t.metrology = s.metrology ∧ t.netting = s.netting ∧ t.interval = s.interval ∧
      t.tariff = s.tariff ∧ t.log = s.log ∧ t.envelope = s.envelope ∧
      (s.pulse.test = false → t.pulse = s.pulse) ∧ t.assembly.phases = s.assembly.phases ∧
      { t.store with backup := s.store.backup } = s.store ∧
      { t.engine with latches := s.engine.latches, lines := s.engine.lines } = s.engine ∧
      { t.wires with sets := s.wires.sets, notices := s.wires.notices } = s.wires)

/-- When a strobe issue closes a set, the set is handed over with its number, a disposition for each phase and the
phase qualities after it. A phase not in use is DISABLED. A sample makes SAMPLE and GOOD, with PHASE_RESTORED
from LOST. An empty slot makes SUBSTITUTED from GOOD, with run 1, and from SUBSTITUTING, with the run one
higher; at run 4,000 the phase is LOST with PHASE_LOST raised, the set itself still SUBSTITUTED; from LOST it is
LOST. (R14, R15, R16) -/
def Obligations.SetClosing : Prop :=
  ∀ (s : State) (o : OpenSet), s.store.state = .running → setToClose s = some o →
    ∃ t d, exec .strobeIssue s = .next t ∧
      t.wires.sets = s.wires.sets ++ [⟨o.number, d, t.assembly.quality⟩] ∧
      ∀ φ, let inUse := s.assembly.phases = .three ∨ φ = .p1
        let q := s.assembly.quality.get φ
        let run := s.assembly.substitutionRun.get φ
        let gives (x : Disposition) (y : Quality) (k : Nat) : Prop :=
          d.get φ = x ∧ t.assembly.quality.get φ = y ∧ t.assembly.substitutionRun.get φ = k
        (¬ inUse → gives .disabled .disabled 0) ∧
        (inUse → ∀ x, o.slots.get φ = .filled x →
          gives (.sample x) .good 0 ∧ (q = .lost → Latched .phaseRestored t)) ∧
        (inUse → (∀ x, o.slots.get φ ≠ .filled x) →
          (q = .good → gives .substituted .substituting 1) ∧
          (q = .substituting → run + 1 < 4000 → gives .substituted .substituting (run + 1)) ∧
          (q = .substituting → 4000 ≤ run + 1 → gives .substituted .lost 0 ∧ Latched .phaseLost t) ∧
          (q = .lost → gives .lost .lost 0))

/-- In RUNNING, when the set that closes is the last of the running second: the notice names the second's length,
its times with its mark, and a pending step; closings counted becomes 0 and the pending step absent; without a
step the next second starts at the end time, day 65,535 being followed by day 0 with the clock UNSET, and its
length is 3,960, 4,040 or 4,000 less the remainder; with a step it starts there, SET, remainder 0, 4,000 long,
with TIME_STEPPED raised; the backup clock is loaded with the new start and state. Before the last closing the
count rises by one. That SECOND_BOUNDARY is that whole strobe issue is the model's choice (assumption log, 2).
(R56, R59, R60, R64, R149) -/
def Obligations.SecondBoundary : Prop :=
  ∀ (s : State) (o : OpenSet), s.store.state = .running → setToClose s = some o →
    let b := s.timeBase
    (b.counted + 1 < b.length → ∃ t, exec .strobeIssue s = .next t ∧
      t.timeBase = { b with counted := b.counted + 1 } ∧ t.wires.notices = s.wires.notices ∧
      t.store = s.store) ∧
    (b.length ≤ b.counted + 1 → ∃ t, exec .secondBoundary s = .next t ∧ exec .strobeIssue s = .next t ∧
      t.wires.notices = s.wires.notices ++
        [⟨b.length, ⟨b.start.day, b.start.second, b.set⟩, ⟨b.start.day, b.start.second + 1, b.set⟩, b.step⟩] ∧
      t.timeBase.counted = 0 ∧ t.timeBase.step = none ∧
      t.store = { s.store with backup := ⟨t.timeBase.start, t.timeBase.set, true⟩ } ∧
      (∀ x, b.step = some x → t.timeBase.start = x ∧ t.timeBase.set = true ∧ t.timeBase.slew = 0 ∧
        t.timeBase.length = 4000 ∧ Latched .timeStepped t) ∧
      (b.step = none →
        (b.start.second < 86399 →
          t.timeBase.start = ⟨b.start.day, b.start.second + 1⟩ ∧ t.timeBase.set = b.set) ∧
        (b.start.second = 86399 → b.start.day < 65535 →
          t.timeBase.start = ⟨b.start.day + 1, 0⟩ ∧ t.timeBase.set = b.set) ∧
        (b.start = ⟨65535, 86399⟩ → t.timeBase.start = ⟨0, 0⟩ ∧ t.timeBase.set = false) ∧
        (40 ≤ b.slew → t.timeBase.length = 3960 ∧ t.timeBase.slew = b.slew - 40) ∧
        (b.slew ≤ -40 → t.timeBase.length = 4040 ∧ t.timeBase.slew = b.slew + 40) ∧
        (-40 < b.slew → b.slew < 40 →
          (t.timeBase.length : Int) = 4000 - b.slew ∧ t.timeBase.slew = 0)))

/-- Each expiry event is the whole strobe issue at which it falls, which is the model's choice (assumption log, 2).
An identify countdown of 0 in DOWN or MISMATCH with no RESTART sends the IDENTIFY and becomes 3,999. A LOCKED
link whose 32nd set in a row closes without a sample goes DOWN. A SUBSTITUTING phase in use whose 4,000th
substituted set closes becomes LOST with PHASE_LOST raised. A test timer of 1 takes the part to NORMAL: timer
and pending count 0, cause TIMER, counters, dropped count and generator kept, TEST_MODE_CHANGE raised; a timer
above 1 falls by one at each strobe issue. (R2, R9, R16, R139, R140) -/
def Obligations.StrobeExpiries : Prop :=
  ∀ (s : State) (φ : Phase), s.store.state = .running →
    ((s.assembly.links.get φ).state = .down ∨ (s.assembly.links.get φ).state = .mismatch →
      (s.assembly.links.get φ).control = .empty → (s.assembly.links.get φ).countdown = 0 →
      ∃ t, exec (.identifyCountdownExpiry φ) s = .next t ∧ exec .strobeIssue s = .next t ∧
        identifyFrame ∈ t.assembly.sent.get φ ∧ (t.assembly.links.get φ).countdown = 3999) ∧
    (∀ o, setToClose s = some o → (∀ x, o.slots.get φ ≠ .filled x) →
      ((s.assembly.links.get φ).state = .locked → (s.assembly.links.get φ).missingRun = 31 →
        ∃ t, exec (.missingRunExpiry φ) s = .next t ∧ exec .strobeIssue s = .next t ∧
          (t.assembly.links.get φ).state = .down ∧ (t.assembly.links.get φ).missingRun = 0) ∧
      (phaseInUse s.assembly.phases φ = true → s.assembly.quality.get φ = .substituting →
        s.assembly.substitutionRun.get φ = 3999 →
        ∃ t, exec (.substitutionRunExpiry φ) s = .next t ∧ exec .strobeIssue s = .next t ∧
          t.assembly.quality.get φ = .lost ∧ t.assembly.substitutionRun.get φ = 0 ∧ Latched .phaseLost t)) ∧
    (s.pulse.test = true → s.pulse.timer = 1 →
      ∃ t, exec .testTimerExpiry s = .next t ∧ exec .strobeIssue s = .next t ∧ Latched .testModeChange t ∧
        t.pulse = { s.pulse with test := false, pendingCount := 0, timer := 0, lastExit := .timer }) ∧
    (s.pulse.test = true → 1 < s.pulse.timer →
      ∃ t, exec .strobeIssue s = .next t ∧ t.pulse = { s.pulse with timer := s.pulse.timer - 1 })

/-- In RUNNING, on a link not DISABLED: a frame of wrong check, type, length or class adds one to the invalid count,
up to 65,535, and nothing else. A valid identity frame in DOWN records serial and class and moves to LOCKED or
MISMATCH by the class; in LOCKED another class moves to MISMATCH and empties the phase's slots, a new serial of
the same class is recorded with LINK_CHANGE raised, and the same frame changes nothing; in MISMATCH it is
recorded, and the right class moves to LOCKED. A valid sample frame in LOCKED fills the empty slot of its open
set, or adds one to the late count; in DOWN and MISMATCH it is ignored. A DISABLED link and a store not RUNNING
receive nothing. That the head serial comes high byte first, and that a store not RUNNING receives nothing, are
the model's choices (assumption log, 39 and 35). (R3, R5, R6, R7, R11, R13) -/
def Obligations.UpstreamFrames : Prop :=
  ∀ (φ : Phase) (s : State),
    let l := s.assembly.links.get φ
    let withLink (r : Link) : State := { s with assembly := { s.assembly with links := s.assembly.links.set φ r } }
    (∀ bytes, s.store.state ≠ .running ∨ l.state = .disabled → exec (.upstreamFrame φ bytes) s = .next s) ∧
    (s.store.state = .running → l.state ≠ .disabled →
      (∀ bytes, bytes ≠ [] → (byteSum bytes % 256 ≠ 0 ∨ (bytes[0]? ≠ some 3#8 ∧ bytes[0]? ≠ some 4#8) ∨
          (bytes[0]? = some 3#8 ∧ bytes.length ≠ 8) ∨ (bytes[0]? = some 4#8 ∧ bytes.length ≠ 7) ∨
          (bytes[0]? = some 4#8 ∧ ∃ c, bytes[5]? = some c ∧ (c.toNat < 1 ∨ 4 < c.toNat))) →
        exec (.upstreamFrame φ bytes) s =
          .next (withLink { l with invalidFrames := min 65535 (l.invalidFrames + 1) })) ∧
      (∀ b3 b2 b1 b0 c k : Byte, byteSum [4#8, b3, b2, b1, b0, c, k] % 256 = 0 → 1 ≤ c.toNat → c.toNat ≤ 4 →
        let serial : Word := b3 ++ b2 ++ b1 ++ b0
        let taken : Link := { l with serial := serial, reportedClass := c.toNat }
        ∃ t, exec (.upstreamFrame φ [4#8, b3, b2, b1, b0, c, k]) s = .next t ∧
          (l.state = .down → c.toNat = l.configuredClass →
            t.assembly.links = s.assembly.links.set φ { taken with state := .locked, missingRun := 0 } ∧
              t.assembly.openSets = s.assembly.openSets ∧ Latched .linkChange t) ∧
          (l.state = .down → c.toNat ≠ l.configuredClass →
            t.assembly.links = s.assembly.links.set φ { taken with state := .mismatch, countdown := 0 } ∧
              t.assembly.openSets = s.assembly.openSets ∧ Latched .linkChange t) ∧
          (l.state = .locked → c.toNat ≠ l.configuredClass →
            t.assembly.links =
              s.assembly.links.set φ { taken with state := .mismatch, countdown := 0, missingRun := 0 } ∧
            (∀ o ∈ t.assembly.openSets, ∀ x, o.slots.get φ ≠ .filled x) ∧ Latched .linkChange t) ∧
          (l.state = .locked → c.toNat = l.configuredClass → serial ≠ l.serial →
            t.assembly = (withLink { l with serial := serial }).assembly ∧ Latched .linkChange t) ∧
          (l.state = .locked → c.toNat = l.configuredClass → serial = l.serial → t = s) ∧
          (l.state = .mismatch → c.toNat = l.configuredClass →
            t.assembly.links = s.assembly.links.set φ { taken with state := .locked, missingRun := 0 } ∧
              Latched .linkChange t) ∧
          (l.state = .mismatch → c.toNat ≠ l.configuredClass → t = withLink taken)) ∧
      (∀ n vh vl ih il x k : Byte, byteSum [3#8, n, vh, vl, ih, il, x, k] % 256 = 0 →
        let sample : Sample := ⟨(vh ++ vl).toInt, (ih ++ il).toInt, x.getLsbD 0⟩
        (l.state ≠ .locked → exec (.upstreamFrame φ [3#8, n, vh, vl, ih, il, x, k]) s = .next s) ∧
        (l.state = .locked → (∃ o ∈ s.assembly.openSets, o.number = n ∧ o.slots.get φ = .empty) →
          exec (.upstreamFrame φ [3#8, n, vh, vl, ih, il, x, k]) s = .next { s with assembly := { s.assembly with
            openSets := s.assembly.openSets.map fun o =>
              if o.number = n ∧ o.slots.get φ = .empty then { o with slots := o.slots.set φ (.filled sample) }
              else o } }) ∧
        (l.state = .locked → (∀ o ∈ s.assembly.openSets, o.number = n → o.slots.get φ ≠ .empty) →
          exec (.upstreamFrame φ [3#8, n, vh, vl, ih, il, x, k]) s =
            .next (withLink { l with lateFrames := min 65535 (l.lateFrames + 1) }))))

/-- For every raw code, offset and gain there is one whole number r with 32,768 r nearest to (raw - offset) x gain,
a tie going away from zero; the calibrated value is r brought into -32,767 to 32,767; the sample is clipped
exactly when it is overloaded or one of the two clamps changes its value. (R24, R25) -/
def Obligations.CalibrationArithmetic : Prop :=
  ∀ (raw offset : Int) (gain : Nat), ∃ r : Int,
    2 * |32768 * r - (raw - offset) * gain| ≤ 32768 ∧
    (2 * |32768 * r - (raw - offset) * gain| = 32768 → |(raw - offset) * gain| < |32768 * r|) ∧
    calibratedCode raw offset gain = max (-32767) (min 32767 r) ∧
    ∀ (c : CalibrationSet) (x : Sample), x.vr = raw → c.offsetV = offset → c.gainV = gain →
      (clippedSample c x = true ↔ x.overload = true ∨ r < -32767 ∨ 32767 < r ∨
        clampChanges x.ir c.offsetI c.gainI = true)

/-- In RUNNING, with no boundary notice ahead and no set held: SAMPLE adds the product of the calibrated voltage and
current, and one to the clipped count when the sample is clipped; SUBSTITUTED adds the phase's last mean power
code and one to the substituted count; LOST adds 0 and one to the lost count; DISABLED adds nothing. The set
count rises by one and the qualities are the set's. Nothing else changes. (R26) -/
def Obligations.SampleSetTake : Prop :=
  ∀ (s : State) (c : ClosedSet) (cs : List ClosedSet), s.store.state = .running → s.wires.sets = c :: cs →
    s.wires.notices = [] → s.metrology.notices = [] → s.metrology.heldSets = [] →
    let m := s.metrology
    ∃ r : Running, exec .sampleSetTake s = .next { s with
        metrology := { m with running := r }, wires := { s.wires with sets := cs } } ∧
      r.sets = m.running.sets + 1 ∧ r.quality = c.quality ∧
      ∀ φ, let k := m.calibration.get φ
        let gains (p : Int) (x y z : Nat) : Prop := r.sum.get φ = m.running.sum.get φ + p ∧
          r.clipped.get φ = m.running.clipped.get φ + x ∧
          r.substituted.get φ = m.running.substituted.get φ + y ∧ r.lost.get φ = m.running.lost.get φ + z
        (∀ x, c.dispositions.get φ = .sample x →
          gains (calibratedCode x.vr k.offsetV k.gainV * calibratedCode x.ir k.offsetI k.gainI)
            (if clippedSample k x = true then 1 else 0) 0 0) ∧
        (c.dispositions.get φ = .substituted → gains (m.mean.get φ) 0 1 0) ∧
        (c.dispositions.get φ = .lost → gains 0 0 0 1) ∧
        (c.dispositions.get φ = .disabled → gains 0 0 0 0)

/-- In RUNNING with no notice and no set held: a notice for more sets than are in is held. A notice for the n sets
that are in closes the second: M is S over n truncated toward zero; a phase's energy sum is 0 when 10 |M| <
16,384 C and S otherwise; the summary with the notice's times and step, the sums, their total, the counts and
the qualities goes to the netting unit, the monitor and the interval unit; the live values are those of the
second, with powers rounded half away from zero; every running value becomes 0. When the last set and the notice
are both on their way, taking them in either order leaves the same state. (R28, R29, R32, R33, R34) -/
def Obligations.SecondCloses : Prop :=
  ∀ (s : State) (b : BoundaryNotice) (bs : List BoundaryNotice), s.store.state = .running →
    s.wires.notices = b :: bs → s.metrology.notices = [] → s.metrology.heldSets = [] →
    let m := s.metrology
    (m.running.sets < b.count → exec .boundaryNotice s = .next { s with
      metrology := { m with notices := [b] }, wires := { s.wires with notices := bs } }) ∧
    (b.count = m.running.sets → 0 < b.count →
      ∃ (y : Summary) (mean : PerPhase Int) (live : Live), exec .boundaryNotice s = .next { s with
          metrology := { m with
            running := ⟨⟨0, 0, 0⟩, 0, ⟨0, 0, 0⟩, ⟨0, 0, 0⟩, ⟨0, 0, 0⟩, ⟨.lost, .lost, .lost⟩⟩
            mean := mean, live := live }
          wires := { s.wires with
            notices := bs, toNetting := s.wires.toNetting ++ [y], toEnvelope := s.wires.toEnvelope ++ [y]
            toInterval := s.wires.toInterval ++ [y] } } ∧
        y.start = b.start ∧ y.finish = b.finish ∧ y.step = b.step ∧ y.sets = b.count ∧ y.sum = m.running.sum ∧
        y.sumEnergy = y.energy.p1 + y.energy.p2 + y.energy.p3 ∧ y.clipped = m.running.clipped ∧
        y.substituted = m.running.substituted ∧ y.lost = m.running.lost ∧ y.quality = m.running.quality ∧
        live.valid = true ∧ live.finish = b.finish ∧ live.quality = m.running.quality ∧
        live.sumPower = roundHalfAway (y.sum.p1 + y.sum.p2 + y.sum.p3) (b.count * 16384) ∧
        ∀ φ, mean.get φ = (y.sum.get φ).tdiv b.count ∧
          live.power.get φ = roundHalfAway (y.sum.get φ) (b.count * 16384) ∧
          (live.creep.get φ = true ↔ 10 * |mean.get φ| < 16384 * m.creepThreshold) ∧
          y.energy.get φ = if 10 * |mean.get φ| < 16384 * m.creepThreshold then 0 else y.sum.get φ) ∧
    (∀ c cs, s.wires.sets = c :: cs → b.count = m.running.sets + 1 →
      ∃ x y t, exec .sampleSetTake s = .next x ∧ exec .boundaryNotice x = .next t ∧
        exec .boundaryNotice s = .next y ∧ exec .sampleSetTake y = .next t)

/-- A summary that arrives while no dispatch is unacknowledged and none is held is taken: each accumulator plus its
input gives up its whole quanta of Q, truncated toward zero, and keeps the remainder; each total gains its
the test flag, goes to the tariff and the interval unit, and is kept as the last dispatch; the hand-off carries
the billing quanta in NORMAL, and in TEST the quanta of Q over D from the test accumulator, which is 0 in
NORMAL. Otherwise the summary joins the held ones. (R39, R41, R43, R46, R49, R50, R51, R53) -/
def Obligations.NettingTakesSecond : Prop :=
  ∀ (s : State) (y : Summary) (ys : List Summary), s.wires.toNetting = y :: ys →
    ((s.netting.awaiting = true ∨ s.netting.held ≠ []) →
      exec .nettingSummaryArrival s = .next { s with
        netting := { s.netting with held := s.netting.held ++ [y] }, wires := { s.wires with toNetting := ys } }) ∧
    (s.netting.awaiting = false → s.netting.held = [] →
      let Q : Int := 235929600000
      let a := s.netting.accumulators
      let k (φ : Phase) : Int := (a.phase.get φ + y.energy.get φ).tdiv Q
      let kS : Int := (a.sum + y.sumEnergy).tdiv Q
      let QT : Int := Q / s.pulse.divisor
      let kT : Int := (s.netting.testAccumulator + y.sumEnergy).tdiv QT
      let pos (x : Int) : Nat := (max x 0).toNat
      let neg (x : Int) : Nat := (max (-x) 0).toNat
      let bill (f : Int → Nat) : Nat := match s.netting.basis with
        | .phase => f (k .p1) + f (k .p2) + f (k .p3)
        | .vector => f kS
      let d : Dispatch := ⟨y.start, y.finish, bill pos, bill neg, s.netting.basis, .of k, kS, y.clipped,
        y.substituted, y.lost, s.pulse.test⟩
      let h : HandOff := if s.pulse.test = true then ⟨pos kT, neg kT, true, s.pulse.divisor⟩
        else ⟨bill pos, bill neg, false, s.pulse.divisor⟩
      exec .nettingSummaryArrival s = .next { s with
        netting := { s.netting with
          accumulators := ⟨.of fun φ => a.phase.get φ + y.energy.get φ - k φ * Q, a.sum + y.sumEnergy - kS * Q⟩
          testAccumulator := if s.pulse.test = true then s.netting.testAccumulator + y.sumEnergy - kT * QT else 0
          totals := ⟨.of fun φ => (s.netting.totals.phaseImport.get φ + pos (k φ)) % 1000000000,
            .of fun φ => (s.netting.totals.phaseExport.get φ + neg (k φ)) % 1000000000,
            (s.netting.totals.sumImport + pos kS) % 1000000000, (s.netting.totals.sumExport + neg kS) % 1000000000⟩
          awaiting := true
          last := ⟨y.finish, s.netting.basis, bill pos, bill neg, .of k, kS, s.pulse.test⟩ }
        wires := { s.wires with
          toNetting := ys, toTariff := s.wires.toTariff ++ [d], dispatches := s.wires.dispatches ++ [d]
          handOffs := s.wires.handOffs ++ [h] } })

/-- An acknowledgment that is not awaited is discarded. An awaited one ends the wait; OPENED puts a pending basis in
force and leaves none pending, TAKEN leaves the basis as it was. With a summary held, the oldest is then taken
at once under the basis now in force, and the unit awaits again; with none held nothing else changes. (R42, R45) -/
def Obligations.Acknowledgments : Prop :=
  ∀ (s : State) (a : Acknowledgment) (rest : List Acknowledgment), s.wires.acknowledgments = a :: rest →
    let w : Wires := { s.wires with acknowledgments := rest }
    let basis := if a = .opened then s.netting.pendingBasis.getD s.netting.basis else s.netting.basis
    let pending := if a = .opened then none else s.netting.pendingBasis
    (s.netting.awaiting = false → exec .dispatchAcknowledgment s = .next { s with wires := w }) ∧
    (s.netting.awaiting = true → s.netting.held = [] → exec .dispatchAcknowledgment s = .next { s with
      netting := { s.netting with awaiting := false, basis := basis, pendingBasis := pending }, wires := w }) ∧
    (∀ y ys, s.netting.awaiting = true → s.netting.held = y :: ys →
      ∃ t r, exec .dispatchAcknowledgment s = .next t ∧
        exec .nettingSummaryArrival { s with
          netting := { s.netting with awaiting := false, held := [], basis := basis, pendingBasis := pending }
          wires := { w with toNetting := [y] } } = .next r ∧
        t = { r with netting := { r.netting with held := ys }
                     wires := { r.wires with toNetting := s.wires.toNetting } })

/-- With no freeze and no activation to take: a dispatch whose test flag is SET changes no register and no last
filing. Otherwise the day type is that of the first special-day entry for the start day, or the week table's
entry for the weekday; the band is that of the last switch entry at or before the minute of the start time, else
of the list's last entry, else 1; that band's import and export registers gain the billing quanta modulo
1,000,000,000, every other register stays, and band and day type are the last filing. (R78, R79) -/
def Obligations.TariffFiling : Prop :=
  ∀ (s : State) (d : Dispatch) (ds : List Dispatch), s.wires.toTariff = d :: ds → s.tariff.pendingFreeze = none →
    (s.tariff.freezeDay = 0 ∨ d.start.marked = false) →
    (s.tariff.pendingState ≠ .armed ∨ d.start.marked = false) →
    (d.test = true → exec .tariffDispatch s = .next { s with wires := { s.wires with toTariff := ds } }) ∧
    (d.test = false → ∀ (dayType band : Nat) (h : dayType < 4),
      let special := s.tariff.active.special
      let switches := s.tariff.active.switches.get ⟨dayType, h⟩
      let minute := d.start.second / 60
      ((∃ before e after, special = before ++ e :: after ∧ (∀ x ∈ before, x.day ≠ d.start.day) ∧
          e.day = d.start.day ∧ dayType = e.dayType) ∨
        ((∀ e ∈ special, e.day ≠ d.start.day) ∧
          dayType = s.tariff.active.week.get (Fin.ofNat 7 (d.start.day + 5)))) →
      ((∃ before w after, switches = before ++ w :: after ∧ w.minute ≤ minute ∧
          (∀ x ∈ after, minute < x.minute) ∧ band = w.band) ∨
        ((∀ x ∈ switches, minute < x.minute) ∧
          ((switches = [] ∧ band = 1) ∨ ∃ before w, switches = before ++ [w] ∧ band = w.band))) →
      ∃ r : Registers, exec .tariffDispatch s = .next { s with
          tariff := { s.tariff with registers := r, lastFiling := some ⟨band, dayType⟩ }
          wires := { s.wires with toTariff := ds } } ∧
        ∀ b : Fin 6,
          r.imported.get b = (if b.val + 1 = band then
            (s.tariff.registers.imported.get b + d.billImport) % 1000000000
            else s.tariff.registers.imported.get b) ∧
          r.exported.get b = (if b.val + 1 = band then
            (s.tariff.registers.exported.get b + d.billExport) % 1000000000
            else s.tariff.registers.exported.get b))

/-- In RUNNING, with no command freeze pending and the second's mark SET. A scheduled freeze is taken when the
latest freeze moment at or before the end lies after the freeze reference: its record, with the next freeze
number, the end time, the scheduled day and the registers after filing, goes to the front of the list of twelve,
the number rises, the reference becomes that day, and FREEZE_TAKEN is raised; otherwise the list stays, and a
reference that is NONE is fixed from the second's start. An ARMED schedule whose activation time is at or before
the end becomes the active schedule after the filing under the old one, EMPTY is left, and SCHEDULE_ACTIVATED is
raised, with an ACTIVATION freeze before it when that option is ON; before its time it stays ARMED. Under an
UNSET mark neither happens. (R89, R90, R93, R94) -/
def Obligations.FreezeAndActivation : Prop :=
  ∀ (s : State) (d : Dispatch) (ds : List Dispatch), s.store.state = .running → s.wires.toTariff = d :: ds →
    s.tariff.pendingFreeze = none → d.finish.second ≤ 86400 →
    let endDay := if d.finish.second = 86400 then d.finish.day + 1 else d.finish.day
    let following := if 4294967295 ≤ s.tariff.nextFreeze then 1 else s.tariff.nextFreeze + 1
    (d.start.marked = false → ∃ t, exec .tariffDispatch s = .next t ∧ t.tariff.freezes = s.tariff.freezes ∧
      t.tariff.active = s.tariff.active ∧ t.tariff.pending = s.tariff.pending ∧
      t.tariff.pendingState = s.tariff.pendingState ∧ t.tariff.freezeReference = s.tariff.freezeReference) ∧
    (d.start.marked = true → s.tariff.pendingState ≠ .armed → 0 < s.tariff.freezeDay → ∀ day,
      latestFreezeDay s.tariff.freezeDay endDay = some day →
      (∀ reference, s.tariff.freezeReference = some reference → reference < day →
        ∃ t, exec .tariffDispatch s = .next t ∧ Latched .freezeTaken t ∧
          t.tariff.freezes = (⟨s.tariff.nextFreeze, d.finish, .scheduled, some day, t.tariff.registers,
            s.netting.totals.sumImport, s.netting.totals.sumExport⟩ :: s.tariff.freezes).take 12 ∧
          t.tariff.nextFreeze = following ∧ t.tariff.freezeReference = some day) ∧
      (∀ reference, s.tariff.freezeReference = some reference → day ≤ reference →
        ∃ t, exec .tariffDispatch s = .next t ∧ t.tariff.freezes = s.tariff.freezes ∧
          t.tariff.nextFreeze = s.tariff.nextFreeze ∧ t.tariff.freezeReference = some reference) ∧
      (s.tariff.freezeReference = none → latestFreezeDay s.tariff.freezeDay d.start.day = some day →
        ∃ t, exec .tariffDispatch s = .next t ∧ t.tariff.freezes = s.tariff.freezes ∧
          t.tariff.nextFreeze = s.tariff.nextFreeze ∧ t.tariff.freezeReference = some day)) ∧
    (d.start.marked = true → s.tariff.freezeDay = 0 → s.tariff.pendingState = .armed → ∀ a,
      s.tariff.activation = some a →
      (a.day * 86400 + a.minute * 60 ≤ d.finish.day * 86400 + d.finish.second →
        ∃ t, exec .tariffDispatch s = .next t ∧ Latched .scheduleActivated t ∧
          t.tariff.active = s.tariff.pending ∧ t.tariff.pendingState = .empty ∧ t.tariff.activation = none ∧
          (d.test = false → t.tariff.lastFiling = some (filingAt s.tariff.active d.start)) ∧
          (s.tariff.freezeOnActivation = false → t.tariff.freezes = s.tariff.freezes) ∧
          (s.tariff.freezeOnActivation = true → Latched .freezeTaken t ∧ t.tariff.nextFreeze = following ∧
            t.tariff.freezes = (⟨s.tariff.nextFreeze, d.finish, .activation, none, t.tariff.registers,
              s.netting.totals.sumImport, s.netting.totals.sumExport⟩ :: s.tariff.freezes).take 12)) ∧
      (d.finish.day * 86400 + d.finish.second < a.day * 86400 + a.minute * 60 →
        ∃ t, exec .tariffDispatch s = .next t ∧ t.tariff.active = s.tariff.active ∧
          t.tariff.pending = s.tariff.pending ∧ t.tariff.pendingState = .armed ∧
          t.tariff.activation = some a))

/-- Day 0 is 1 January 2000, a Saturday, and each day up to 65,535 is followed by the next date of the Gregorian
calendar and the next weekday. For a day of the month f from 1 to 28, the latest freeze day at or before a day
is the last day of that date, if there is one. (R57, R92) -/
def Obligations.CalendarAndFreezeDays : Prop :=
  dateOf 0 = ⟨2000, 1, 1⟩ ∧ (weekdayOf 0).val = 5 ∧
  (∀ n, n < 65535 → (weekdayOf (n + 1)).val = ((weekdayOf n).val + 1) % 7 ∧
    let a := dateOf n
    let leap : Prop := a.year % 4 = 0 ∧ (a.year % 100 ≠ 0 ∨ a.year % 400 = 0)
    let last := if a.month = 2 then (if leap then 29 else 28)
      else if a.month = 4 ∨ a.month = 6 ∨ a.month = 9 ∨ a.month = 11 then 30 else 31
    dateOf (n + 1) = if a.day < last then ⟨a.year, a.month, a.day + 1⟩
      else if a.month < 12 then ⟨a.year, a.month + 1, 1⟩ else ⟨a.year + 1, 1, 1⟩) ∧
  ∀ f n, 1 ≤ f → f ≤ 28 → n ≤ 65536 →
    (∀ k, latestFreezeDay f n = some k →
      k ≤ n ∧ (dateOf k).day = f ∧ ∀ j, k < j → j ≤ n → (dateOf j).day ≠ f) ∧
    (latestFreezeDay f n = none → ∀ j, j ≤ n → (dateOf j).day ≠ f)

/-- In RUNNING, the last of summary, status and dispatch to arrive completes the second; before that a part is held.
The tally gains the billing and phase quanta, the counts, the peak export, the over and curtail seconds and the
flags, and its basis is the first dispatch's. When the end is a boundary of the tally's length, or the second
carries a step, the record is built with the flags short and time-changed, a pending length takes force, the
next tally opens at the step's time or at the end time with the length in force, INTERVAL_CLOSED is raised, and
the acknowledgment is OPENED; otherwise it is TAKEN. No other block changes but for the latched event and the
attention lines, and of the reports on their way only the arrived one, the record and the acknowledgment. (R67,
R68, R69, R70, R71) -/
def Obligations.IntervalTakesSecond : Prop :=
  ∀ (s : State) (y : Summary) (e : EnvelopeStatus) (d : Dispatch), s.store.state = .running →
    let u := s.interval.tally
    let closes : Prop := y.finish.second % (60 * u.length) = 0 ∨ y.step ≠ none
    let gained : Tally := { u with
      basis := some (u.basis.getD d.basis)
      importWh := u.importWh + d.billImport, exportWh := u.exportWh + d.billExport
      net := .of fun φ => u.net.get φ + d.quanta.get φ
      substituted := .of fun φ => u.substituted.get φ + d.substituted.get φ
      lost := .of fun φ => u.lost.get φ + d.lost.get φ
      clipped := .of fun φ => u.clipped.get φ + d.clipped.get φ
      peakExport := max u.peakExport e.exported
      overSeconds := u.overSeconds + (if e.overLimit = true then 1 else 0)
      curtailSeconds := u.curtailSeconds + (if e.curtail = true then 1 else 0)
      flags := { u.flags with
        clockUnset := u.flags.clockUnset || !d.start.marked, test := u.flags.test || d.test
        substituted := u.flags.substituted || decide (0 < d.substituted.p1 + d.substituted.p2 + d.substituted.p3)
        lost := u.flags.lost || decide (0 < d.lost.p1 + d.lost.p2 + d.lost.p3) }
      seconds := u.seconds + 1 }
    let short : Bool := u.flags.short || decide (u.start.second % (60 * u.length) ≠ 0) ||
      decide (y.finish.second % (60 * u.length) ≠ 0)
    let record : IntervalRecord := ⟨u.start, y.finish, u.length, gained.basis, gained.importWh, gained.exportWh,
      gained.net, gained.substituted, gained.lost, gained.clipped, gained.peakExport, gained.overSeconds,
      gained.curtailSeconds,
      { gained.flags with short := short, timeChanged := u.flags.timeChanged || decide (y.step ≠ none) }⟩
    let taken (t : State) (w : Wires) (ys : List Summary) (es : List EnvelopeStatus) : Prop :=
      t.interval.summaries = ys ∧ t.interval.statuses = es ∧ t.interval.dispatch = none ∧
      t.netting = s.netting ∧ t.tariff = s.tariff ∧ t.log = s.log ∧ t.envelope = s.envelope ∧
      t.metrology = s.metrology ∧ t.timeBase = s.timeBase ∧ t.pulse = s.pulse ∧ t.store = s.store ∧
      t.assembly = s.assembly ∧ t.identity = s.identity ∧ t.freeCount = s.freeCount ∧ t.pending = s.pending ∧
      t.engine = { s.engine with latches := t.engine.latches, lines := t.engine.lines } ∧
      t.wires = { w with records := t.wires.records, acknowledgments := t.wires.acknowledgments } ∧
      (¬ closes → t.engine = s.engine ∧ t.interval.tally = gained ∧ t.interval.length = s.interval.length ∧
        t.interval.pendingLength = s.interval.pendingLength ∧ t.wires.records = s.wires.records ∧
        t.wires.acknowledgments = s.wires.acknowledgments ++ [.taken]) ∧
      (closes → t.wires.records = s.wires.records ++ [record] ∧
        t.wires.acknowledgments = s.wires.acknowledgments ++ [.opened] ∧ 
        (∀ p, t.engine.latches.get p = s.engine.latches.get p ||| eventSet .intervalClosed ∧
          t.engine.lines.get p = attention .running (t.engine.latches.get p) (t.engine.enables.get p)) ∧
        t.interval.length = s.interval.pendingLength.getD s.interval.length ∧ t.interval.pendingLength = none ∧
        t.interval.tally.length = t.interval.length ∧ t.interval.tally.seconds = 0 ∧
        t.interval.tally.basis = none ∧ t.interval.tally.importWh = 0 ∧ t.interval.tally.exportWh = 0 ∧
        t.interval.tally.flags = ⟨false, decide (y.step ≠ none), false, false, false, false, false, false⟩ ∧
        (∀ x, y.step = some x → t.interval.tally.start = ⟨x.day, x.second, true⟩) ∧
        (y.step = none → y.finish.second < 86400 → t.interval.tally.start = y.finish) ∧
        (y.step = none → y.finish.second = 86400 → y.finish.day < 65535 →
          t.interval.tally.start = ⟨y.finish.day + 1, 0, y.finish.marked⟩))
    (∀ ws, s.wires.toInterval = y :: ws → s.interval.summaries = [] →
      ((s.interval.statuses = [] ∨ s.interval.dispatch = none) →
        exec .intervalSummaryArrival s = .next { s with
          interval := { s.interval with summaries := [y] }, wires := { s.wires with toInterval := ws } }) ∧
      (∀ es, s.interval.statuses = e :: es → s.interval.dispatch = some d →
        ∃ t, exec .intervalSummaryArrival s = .next t ∧ taken t { s.wires with toInterval := ws } [] es)) ∧
    (∀ ws, s.wires.statuses = e :: ws → s.interval.statuses = [] →
      ((s.interval.summaries = [] ∨ s.interval.dispatch = none) →
        exec .envelopeStatusArrival s = .next { s with
          interval := { s.interval with statuses := [e] }, wires := { s.wires with statuses := ws } }) ∧
      (∀ ys, s.interval.summaries = y :: ys → s.interval.dispatch = some d →
        ∃ t, exec .envelopeStatusArrival s = .next t ∧ taken t { s.wires with statuses := ws } ys [])) ∧
    (∀ ws, s.wires.dispatches = d :: ws → s.interval.dispatch = none →
      ((s.interval.summaries = [] ∨ s.interval.statuses = []) →
        exec .intervalDispatchArrival s = .next { s with
          interval := { s.interval with dispatch := some d }, wires := { s.wires with dispatches := ws } }) ∧
      (∀ ys es, s.interval.summaries = y :: ys → s.interval.statuses = e :: es →
        ∃ t, exec .intervalDispatchArrival s = .next t ∧ taken t { s.wires with dispatches := ws } ys es))

/-- In RUNNING the term in force loses a second and lapses at 0 with LIMIT_LAPSED raised; E is the export of the
rounded sum mean power; L is the lower of term value and site limit. UNLIMITED gives CLEAR; a LOST phase gives
CURTAILING with cause SENSING; otherwise E above L counts toward G from CLEAR and OVER_LIMIT and trips with
cause LIMIT, and returns to CLEAR below; from CURTAILING and HOLDING, E at or below L less B counts toward H and
releases, and above it curtails, a sensing fault that has ended counting as cause LIMIT. The line is active in
CURTAILING and HOLDING, its change raises CURTAIL_ON or CURTAIL_OFF, and the status of the second goes to the
interval unit. Nothing else changes. (R115, R116, R118, R121, R122, R123, R124, R125, R127, R128) -/
def Obligations.MonitorTakesSummary : Prop :=
  ∀ (s : State) (y : Summary) (ys : List Summary), s.store.state = .running → s.wires.toEnvelope = y :: ys →
    let e := s.envelope
    let m := e.monitor
    let power := roundHalfAway (y.sum.p1 + y.sum.p2 + y.sum.p3) (y.sets * 16384)
    let exported := (max (-power) 0).toNat
    let inForce : Bool := e.term.inForce && decide (1 < e.term.validity)
    let limit := lowerLimit (if inForce = true then e.term.limit else e.fallback) e.site
    ∃ t, exec .envelopeSummaryArrival s = .next t ∧
      t = { s with
        envelope := { e with term := t.envelope.term, monitor := t.envelope.monitor, line := t.envelope.line, last := t.envelope.last }
        wires := { s.wires with toEnvelope := ys, statuses := t.wires.statuses }
        engine := { s.engine with latches := t.engine.latches, lines := t.engine.lines } } ∧
      t.envelope.term = (if e.term.inForce = true then
        { e.term with inForce := inForce, validity := e.term.validity - 1 } else e.term) ∧
      t.envelope.last = ⟨exported, y.finish, true⟩ ∧
      (t.envelope.line = true ↔
        t.envelope.monitor.state = .curtailing ∨ t.envelope.monitor.state = .holding) ∧
      t.wires.statuses = s.wires.statuses ++ [⟨y.start, y.finish, exported,
        (match limit with | .unlimited => false | .watts w => decide (w < exported)), t.envelope.line⟩] ∧
      (e.term.inForce = true → inForce = false → Latched .limitLapsed t) ∧
      (e.line = false → t.envelope.line = true → Latched .curtailOn t) ∧
      (e.line = true → t.envelope.line = false → Latched .curtailOff t) ∧
      (limit = .unlimited → t.envelope.monitor = ⟨.clear, .none, 0, 0⟩) ∧
      ∀ w, limit = .watts w →
        ((∃ φ, y.quality.get φ = .lost) → t.envelope.monitor = ⟨.curtailing, .sensing, 0, 0⟩) ∧
        ((∀ φ, y.quality.get φ ≠ .lost) →
          let released : Prop := (exported : Int) ≤ (w : Int) - e.band
          let cause := if m.state = .curtailing ∧ m.cause = .sensing then CurtailCause.limit else m.cause
          (m.state = .clear ∨ m.state = .overLimit → exported ≤ w →
            t.envelope.monitor = ⟨.clear, .none, 0, 0⟩) ∧
          (m.state = .clear → w < exported → t.envelope.monitor =
            if e.grace ≤ 1 then ⟨.curtailing, .limit, 0, 0⟩ else ⟨.overLimit, .none, 1, 0⟩) ∧
          (m.state = .overLimit → w < exported → t.envelope.monitor =
            if e.grace ≤ m.overCount + 1 then ⟨.curtailing, .limit, 0, 0⟩
            else ⟨.overLimit, .none, m.overCount + 1, 0⟩) ∧
          (m.state = .curtailing → released → t.envelope.monitor =
            if e.hold ≤ 1 then ⟨.clear, .none, 0, 0⟩ else ⟨.holding, cause, 0, 1⟩) ∧
          (m.state = .holding → released → t.envelope.monitor =
            if e.hold ≤ m.holdCount + 1 then ⟨.clear, .none, 0, 0⟩ else ⟨.holding, cause, 0, m.holdCount + 1⟩) ∧
          (m.state = .curtailing ∨ m.state = .holding → ¬ released →
            t.envelope.monitor = ⟨.curtailing, cause, 0, 0⟩))

/-- In RUNNING with a summary on its way and all phases in order: a term with 1 second left lapses at it, with
LIMIT_LAPSED raised; with E above L, an over count one short of G trips the monitor with CURTAIL_ON raised from
an inactive line; with E at or below L less B, a hold count one short of H releases it with CURTAIL_OFF raised
from an active line. The trip and the release are said of a term that is LAPSED or has more than 1 second left.
That each of the three is the whole arrival of that summary is the model's choice (assumption log, 2). (R118,
R125) -/
def Obligations.MonitorExpiries : Prop :=
  ∀ (s : State) (y : Summary) (ys : List Summary), s.store.state = .running → s.wires.toEnvelope = y :: ys →
    (s.envelope.term.inForce = true → s.envelope.term.validity = 1 →
      ∃ t, exec .termLapse s = .next t ∧ exec .envelopeSummaryArrival s = .next t ∧ Latched .limitLapsed t ∧
        t.envelope.term = ⟨false, s.envelope.term.limit, 0⟩) ∧
    ((∀ φ, y.quality.get φ ≠ .lost) → (s.envelope.term.inForce = false ∨ 1 < s.envelope.term.validity) → ∀ w,
      effectiveLimit s.envelope = .watts w →
      (w < exportPower y → s.envelope.monitor.state = .overLimit →
        s.envelope.monitor.overCount + 1 = s.envelope.grace →
        ∃ t, exec .graceExpiry s = .next t ∧ exec .envelopeSummaryArrival s = .next t ∧
          t.envelope.monitor = ⟨.curtailing, .limit, 0, 0⟩ ∧ t.envelope.line = true ∧
          (s.envelope.line = false → Latched .curtailOn t)) ∧
      ((exportPower y : Int) ≤ (w : Int) - s.envelope.band → s.envelope.monitor.state = .holding →
        s.envelope.monitor.holdCount + 1 = s.envelope.hold →
        ∃ t, exec .holdExpiry s = .next t ∧ exec .envelopeSummaryArrival s = .next t ∧
          t.envelope.monitor = ⟨.clear, .none, 0, 0⟩ ∧ t.envelope.line = false ∧
          (s.envelope.line = true → Latched .curtailOff t)))

/-- In RUNNING a hand-off of another mode, or in TEST of another D, is discarded. A current one adds its import,
export or both by the source to the pending count, up to 4,095, and what does not fit to the dropped count, up
to 65,535; in TEST the test counters gain its counts modulo 1,000,000,000; an IDLE generator with a quantum to
pulse starts at once. A start takes one from the pending count and is ACTIVE for A; the end of ACTIVE begins the
gap; the end of the gap starts the next pulse while any is pending, and otherwise the generator is IDLE. The
field that holds the period's length is the model's own (assumption log, 8). (R133, R134, R135, R138) -/
def Obligations.PulseUnit : Prop :=
  ∀ s : State,
    (∀ h hs, s.store.state = .running → s.wires.handOffs = h :: hs →
      let w : Wires := { s.wires with handOffs := hs }
      let u := s.pulse
      let n := match u.source with
        | .imported => h.importCount
        | .exported => h.exportCount
        | .absolute => h.importCount + h.exportCount
      let sum := u.pendingCount + n
      let starts : Prop := u.generator = .idle ∧ 0 < n
      (h.test ≠ u.test ∨ (u.test = true ∧ h.divisor ≠ u.divisor) →
        exec .pulseHandOff s = .next { s with wires := w }) ∧
      (h.test = u.test → (u.test = true → h.divisor = u.divisor) →
        exec .pulseHandOff s = .next { s with wires := w, pulse := { u with
          pendingCount := if starts then min 4095 sum - 1 else min 4095 sum
          dropped := min 65535 (u.dropped + (sum - 4095))
          generator := if starts then .active else u.generator
          period := if starts then u.activeWidth else u.period
          testImport := if u.test = true then (u.testImport + h.importCount) % 1000000000 else u.testImport
          testExport := if u.test = true then (u.testExport + h.exportCount) % 1000000000 else u.testExport } })) ∧
    (s.pulse.generator = .active → exec .activePeriodEnd s = .next
      { s with pulse := { s.pulse with generator := .gap, period := s.pulse.gapWidth } }) ∧
    (s.pulse.generator = .gap → 0 < s.pulse.pendingCount → exec .gapPeriodEnd s = .next
      { s with pulse := { s.pulse with
          generator := .active, period := s.pulse.activeWidth, pendingCount := s.pulse.pendingCount - 1 } }) ∧
    (s.pulse.generator = .gap → s.pulse.pendingCount = 0 → exec .gapPeriodEnd s = .next
      { s with pulse := { s.pulse with generator := .idle, period := 0 } })

/-- In RUNNING a record goes in behind the records left, under the number N, which rises by one. No more of the
oldest records go than its one or two slots need. A READING context whose next record went moves to the oldest
record left, its gap growing by the records it missed, with CONTEXT_GAP raised for its port alone; every other
context stays. The commit queue keeps its first entry, loses behind it the intakes of records that went, and
ends with the new intake and the log as it then stands. Once N is 4,294,967,296 a record is discarded. A commit
that completes makes the state of its entry durable, and after an intake a checkpoint notice is sent. (R99,
R100, R101, R102, R110, R111) -/
def Obligations.LogIntakeAndCommit : Prop :=
  ∀ s : State,
    (∀ b bs, s.store.state = .running → s.store.waiting = [] → s.wires.records = b :: bs →
      let l := s.log
      let w : Wires := { s.wires with records := bs }
      let need := if [b.substituted.p1, b.substituted.p2, b.substituted.p3, b.lost.p1, b.lost.p2, b.lost.p3,
        b.clipped.p1, b.clipped.p2, b.clipped.p3].all (fun n => n == 0) then 1 else 2
      (4294967296 ≤ l.next → exec .recordIntake s = .next { s with wires := w }) ∧
      (l.next < 4294967296 → ∃ t removed kept, exec .recordIntake s = .next t ∧ t.wires = w ∧
        l.records = removed ++ kept ∧ (kept = [] ∨ slotsUsed kept + need ≤ 2048) ∧
        (∀ front x, removed = front ++ [x] → 2048 < slotsUsed (x :: kept) + need) ∧
        t.log.records = kept ++ [⟨l.next, b⟩] ∧ t.log.next = l.next + 1 ∧
        (let entry : CommitEntry := .intake l.next ⟨kept ++ [⟨l.next, b⟩], l.next + 1⟩;
          (l.queue = [] → t.log.queue = [entry]) ∧
          ∀ e es, l.queue = e :: es → t.log.queue = e :: (es.filter fun x => match x with
            | .clear _ => true
            | .intake n _ => removed.all fun r => r.sequence != n) ++ [entry]) ∧
        t.log.committed = l.committed ∧
        (∀ p, let c := l.contexts.get p
          let missed := removed.filter fun r => decide (c.next ≤ r.sequence)
          (c.reading = false ∨ missed = [] → t.log.contexts.get p = c) ∧
          (c.reading = true → missed ≠ [] →
            t.log.contexts.get p = ⟨true, (kept.head?.map LogRecord.sequence).getD l.next,
              min 4294967295 (c.gap + missed.length)⟩ ∧
            t.engine.latches.get p &&& eventSet .contextGap = eventSet .contextGap) ∧
          (c.reading = false ∨ missed = [] → t.engine.latches.get p = s.engine.latches.get p)))) ∧
    (∀ n i es, s.log.queue = .intake n i :: es → exec .commitComplete s = .next { s with
      log := { s.log with queue := es, committed := i }
      wires := { s.wires with checkpointNotices := s.wires.checkpointNotices + 1 } }) ∧
    (∀ i es, s.log.queue = .clear i :: es → exec .commitComplete s = .next { s with
      log := { s.log with queue := es, committed := i } })

/-- A checkpoint notice takes the registers, the next freeze number, the freeze reference, the totals and N as they
stand. With no copy write in progress a write begins: to the copy that was not written last, or that did not
hold the valid checkpoint, or to X when there is neither, which then has no correct check, with the other copy's
generation plus one, or 1 when that copy is not correct. While a write is in progress the contents wait,
replacing any that waited. The end of a write makes its copy correct, and a waiting content is written at once
to the other copy, one generation on. (R150) -/
def Obligations.CheckpointWrites : Prop :=
  ∀ s : State,
    let now : CheckpointContents := ⟨s.tariff.registers, s.tariff.nextFreeze, s.tariff.freezeReference,
      s.netting.totals, s.log.next⟩
    (∀ k, s.wires.checkpointNotices = k + 1 →
      let w : Wires := { s.wires with checkpointNotices := k }
      (s.store.copyWrite ≠ none → exec .checkpointNotice s = .next
        { s with wires := w, store := { s.store with pendingCopy := some now } }) ∧
      (s.store.copyWrite = none →
        (s.store.lastCopy = some .y ∨ (s.store.lastCopy = none ∧ s.store.found = some .y) ∨
            (s.store.lastCopy = none ∧ s.store.found = none) →
          ∃ g, exec .checkpointNotice s = .next { s with wires := w, store := { s.store with
              copyX := none, copyWrite := some ⟨.x, now, g⟩ } } ∧
            (s.store.copyY = none → g = 1) ∧
            ∀ c, s.store.copyY = some c → c.generation < 4294967295 → g = c.generation + 1) ∧
        (s.store.lastCopy = some .x ∨ (s.store.lastCopy = none ∧ s.store.found = some .x) →
          ∃ g, exec .checkpointNotice s = .next { s with wires := w, store := { s.store with
              copyY := none, copyWrite := some ⟨.y, now, g⟩ } } ∧
            (s.store.copyX = none → g = 1) ∧
            ∀ c, s.store.copyX = some c → c.generation < 4294967295 → g = c.generation + 1))) ∧
    (∀ c, s.store.copyWrite = some ⟨.x, c⟩ →
      (s.store.pendingCopy = none → exec .checkpointWriteEnd s = .next { s with store := { s.store with
        copyX := some c, lastCopy := some .x, copyWrite := none } }) ∧
      (∀ p, s.store.pendingCopy = some p → c.generation < 4294967295 →
        exec .checkpointWriteEnd s = .next { s with store := { s.store with
          copyX := some c, copyY := none, lastCopy := some .x, pendingCopy := none
          copyWrite := some ⟨.y, p, c.generation + 1⟩ } })) ∧
    (∀ c, s.store.copyWrite = some ⟨.y, c⟩ →
      (s.store.pendingCopy = none → exec .checkpointWriteEnd s = .next { s with store := { s.store with
        copyY := some c, lastCopy := some .y, copyWrite := none } }) ∧
      (∀ p, s.store.pendingCopy = some p → c.generation < 4294967295 →
        exec .checkpointWriteEnd s = .next { s with store := { s.store with
          copyY := some c, copyX := none, lastCopy := some .y, pendingCopy := none
          copyWrite := some ⟨.x, p, c.generation + 1⟩ } }))

/-- A fall of SUPOK in RUNNING enters SAVING with cause SUPPLY, drops the open sets, the control slots and the
waiting requests, and changes no register; in other states only the level changes. In SAVING at rest, SAVE_START
begins the write of the image of that moment, after which the old image no longer reads back, or for CLEAR_ALL
sets both copies invalid; while the part is not at rest nothing begins, and a second still to be closed is
counted as not at rest (the model's reading of R146 with R54, log entry 15). SAVE_COMPLETE writes image and
mark, or for CLEAR_ALL neither, with both copies left invalid and a COLD restore to follow, and goes on to
RESTORING with SUPOK high or to DORMANT with it low. A rise in DORMANT enters RESTORING; a power-up enters
RESTORING or DORMANT by SUPOK. (R144, R145, R146, R147) -/
def Obligations.SupplyAndSave : Prop :=
  ∀ s : State,
    (s.store.state = .running → ∃ t, exec .supokFall s = .next t ∧ t.store.state = .saving ∧
      t.store.cause = .supply ∧ t.store.supok = false ∧ t.assembly.openSets = [] ∧
      (∀ φ, (t.assembly.links.get φ).control = .empty ∧
        (t.assembly.links.get φ).state = (s.assembly.links.get φ).state) ∧
      t.engine.queues = .all [] ∧ t.engine.frontEnds = .all .hunt ∧ t.netting = s.netting ∧
      t.tariff = s.tariff ∧ t.log = s.log ∧ t.interval = s.interval ∧ t.envelope = s.envelope ∧
      t.pulse = s.pulse ∧ t.timeBase = s.timeBase ∧ t.engine.latches = s.engine.latches) ∧
    (s.store.state ≠ .running → exec .supokFall s = .next
      { s with store := { s.store with supok := false } }) ∧
    (s.store.state ≠ .dormant → exec .supokRise s = .next
      { s with store := { s.store with supok := true } }) ∧
    (s.store.state = .dormant → ∃ t, exec .supokRise s = .next t ∧ t.store.state = .restoring ∧
      t.store.supok = true ∧ t.store.mark = false ∧ t.engine.latches = .all 0#15) ∧
    (s.store.state = .saving → s.store.write = .idle → s.store.cause ≠ .clearAll →
      s.netting.held = [] → s.netting.awaiting = false → s.wires.toTariff = [] → s.log.queue = [] →
      s.store.copyWrite = none → s.store.pendingCopy = none →
      s.wires.toNetting = [] → s.wires.toEnvelope = [] → s.wires.toInterval = [] → s.wires.records = [] →
      s.wires.checkpointNotices = 0 → s.metrology.notices = [] → s.wires.notices = [] →
      exec .saveStart s = .next { s with store := { s.store with
        image := none
        write := .image ⟨s.netting.accumulators, s.netting.totals, s.tariff.registers, s.tariff.nextFreeze,
          s.tariff.pendingFreeze, s.tariff.freezeReference, s.timeBase.start, s.timeBase.set, s.timeBase.slew,
          s.timeBase.step, s.interval.tally, s.envelope.term⟩ } }) ∧
    (s.store.state = .saving → s.store.write = .idle → s.store.cause = .clearAll → atRest s = true →
      exec .saveStart s = .next { s with store := { s.store with
        copyX := none, copyY := none, write := .clearing } }) ∧
    ((s.netting.held ≠ [] ∨ s.netting.awaiting = true ∨ s.wires.toTariff ≠ [] ∨ s.log.queue ≠ [] ∨
        s.store.copyWrite ≠ none ∨ s.store.pendingCopy ≠ none ∨ s.wires.toNetting ≠ [] ∨
        s.wires.toEnvelope ≠ [] ∨ s.wires.toInterval ≠ [] ∨ s.wires.records ≠ [] ∨
        s.wires.checkpointNotices ≠ 0 ∨ s.metrology.notices ≠ [] ∨ s.wires.notices ≠ []) → exec .saveStart s = .next s) ∧
    (∀ i, s.store.state = .saving → s.store.write = .image i → ∃ t, exec .saveComplete s = .next t ∧
      (s.store.supok = false → t.store.state = .dormant ∧ t.store.image = some i ∧ t.store.mark = true ∧
        t.envelope.monitor = ⟨.clear, .none, 0, 0⟩ ∧ t.envelope.line = false ∧ t.pulse.generator = .idle) ∧
      (s.store.supok = true → t.store.state = .restoring ∧ t.store.image = some i ∧ t.store.mark = false ∧
        t.store.notice.kind = .warm ∧ t.store.notice.image = some i ∧ t.store.notice.cause = s.store.cause)) ∧
    (s.store.state = .saving → s.store.write = .clearing → s.store.mark = false → s.store.copyX = none →
      s.store.copyY = none → ∃ t, exec .saveComplete s = .next t ∧ t.store.image = s.store.image ∧
        t.store.mark = false ∧ t.store.copyX = none ∧ t.store.copyY = none ∧ t.store.write = .idle ∧
        (s.store.supok = false → t.store.state = .dormant ∧ t.store.cause = s.store.cause ∧
          t.envelope.monitor = ⟨.clear, .none, 0, 0⟩ ∧ t.envelope.line = false ∧ t.pulse.generator = .idle) ∧
        (s.store.supok = true → t.store.state = .restoring ∧ t.store.notice.kind = .cold ∧
          t.store.notice.cause = s.store.cause)) ∧
    (s.store.state = .unpowered → ∃ t u, exec (.powerUp false) s = .next t ∧ t.store.state = .dormant ∧
      exec (.powerUp true) s = .next u ∧ u.store.state = .restoring ∧ u.store.notice.cause = .supply)

/-- On entering RESTORING from DORMANT: WARM with the image when the mark stands and an image reads back; otherwise
CHECKPOINT with the contents of the valid copy, the only correct one, or of two the one whose generation is the
other's plus one; otherwise COLD. The mark is erased, the backup clock's reading goes into the notice, and all
ten blocks wait. Two correct copies of any other generations also give CHECKPOINT, with contents left open,
which is the model's choice (assumption log, 4). A COLD restore returns every persistent setting, both
schedules, the freeze list, the slot store, the rights and the enable sets to their defaults, sets both copies
invalid and the link counters to 0. (R150, R152, R153) -/
def Obligations.RestoreKinds : Prop :=
  ∀ s : State, s.store.state = .dormant → ∃ t, exec .supokRise s = .next t ∧ t.store.state = .restoring ∧
    t.store.mark = false ∧ t.store.notice.reading = s.store.backup ∧ t.store.notice.cause = s.store.cause ∧
    (∀ b, b ∈ t.store.waiting) ∧
    (∀ i, s.store.mark = true → s.store.image = some i →
      t.store.notice.kind = .warm ∧ t.store.notice.image = some i) ∧
    (s.store.mark = false ∨ s.store.image = none →
      (∀ x, s.store.copyX = some x → s.store.copyY = none →
        t.store.notice.kind = .checkpoint ∧ t.store.notice.checkpoint = some x.contents) ∧
      (∀ y, s.store.copyX = none → s.store.copyY = some y →
        t.store.notice.kind = .checkpoint ∧ t.store.notice.checkpoint = some y.contents) ∧
      (∀ x y, s.store.copyX = some x → s.store.copyY = some y → t.store.notice.kind = .checkpoint ∧
        (x.generation = (y.generation + 1) % 4294967296 → x.generation ≠ y.generation →
          t.store.notice.checkpoint = some x.contents) ∧
        (y.generation = (x.generation + 1) % 4294967296 → x.generation ≠ (y.generation + 1) % 4294967296 →
          t.store.notice.checkpoint = some y.contents)) ∧
      (s.store.copyX = none → s.store.copyY = none → t.store.notice.kind = .cold ∧
        t.identity = ⟨0, 0⟩ ∧ t.assembly.phases = .three ∧
        (∀ φ, (t.assembly.links.get φ).configuredClass = 2 ∧
          t.metrology.calibration.get φ = ⟨32768, 32768, 0, 0⟩) ∧
        (∀ φ, (t.assembly.links.get φ).invalidFrames = 0 ∧ (t.assembly.links.get φ).lateFrames = 0) ∧
        t.store.copyX = none ∧ t.store.copyY = none ∧
        t.metrology.creepThreshold = 50 ∧ t.netting.basis = .vector ∧ t.netting.pendingBasis = none ∧
        t.interval.length = 15 ∧ t.interval.pendingLength = none ∧
        (∀ x : Schedule, x = t.tariff.active ∨ x = t.tariff.pending → x.revision = 0 ∧ x.special = [] ∧
          (∀ i, x.week.get i = 0) ∧ ∀ i, x.switches.get i = []) ∧
        t.tariff.activation = none ∧ t.tariff.freezeOnActivation = false ∧
        t.tariff.pendingState = .empty ∧ t.tariff.freezes = [] ∧ t.tariff.freezeDay = 0 ∧
        t.log.committed = ⟨[], 1⟩ ∧ t.envelope.fallback = .watts 5000 ∧ t.envelope.grace = 5 ∧
        t.envelope.band = 200 ∧ t.envelope.hold = 30 ∧ t.envelope.activeHigh = true ∧
        t.pulse.source = .absolute ∧ t.pulse.activeWidth = 40 ∧ t.pulse.gapWidth = 40 ∧
        t.pulse.divisor = 100 ∧ t.pulse.timeout = 30 ∧ t.engine.rights = RightsMap.cold ∧
        t.engine.enables = .all 0#15))

/-- A save defeated, in RUNNING, SAVING or RESTORING, and a loss of VDD in DORMANT leave the settings, the
schedules, the freeze list, the committed records, the rights, the enable sets, image, mark and copies as they
were, and the backup clock and the link counters too; a copy write in progress leaves its copy without a correct
check, and what is not nonvolatile is gone. A CLEAR ALL cut between its copies leaves X invalid and Y as it was.
A WARM restore cut before the mark is erased, no block having taken its notice, leaves the mark present with the
image. A loss of the backup domain leaves the clock at day 0, second 0, UNSET and INVALID and both counters of
every link 0; in a powered state it does what a loss of VDD does besides, and in a part without VDD it is the
loss of VBK alone and changes nothing else. Outside RUNNING a backup clock tick moves the time on by one second,
day 65,535 being followed by day 0 with the clock UNSET; in RUNNING it does nothing. That lost values read as
after a COLD restore is the model's choice (assumption log, 9); that a failure before the erasure of the mark is
one in a restore that no block has taken (10), that a cut which the state does not allow is taken as a plain one
(11), and that both supplies go at once in a powered part (12) are read from the rules. (R148, R149, R151) -/
def Obligations.PowerLosses : Prop :=
  ∀ s : State,
    let settings (t : State) : Prop := t.store.state = .unpowered ∧ t.identity = s.identity ∧
      (∀ φ, (t.assembly.links.get φ).configuredClass = (s.assembly.links.get φ).configuredClass) ∧
      t.metrology.creepThreshold = s.metrology.creepThreshold ∧
      t.interval.pendingLength = s.interval.pendingLength ∧
      t.tariff.freezeOnActivation = s.tariff.freezeOnActivation ∧ t.envelope.grace = s.envelope.grace ∧
      t.envelope.band = s.envelope.band ∧ t.envelope.hold = s.envelope.hold ∧
      t.envelope.activeHigh = s.envelope.activeHigh ∧ t.pulse.source = s.pulse.source ∧
      t.pulse.activeWidth = s.pulse.activeWidth ∧ t.pulse.gapWidth = s.pulse.gapWidth ∧
      t.pulse.timeout = s.pulse.timeout ∧
      t.assembly.phases = s.assembly.phases ∧ t.metrology.calibration = s.metrology.calibration ∧
      t.netting.basis = s.netting.basis ∧ t.netting.pendingBasis = s.netting.pendingBasis ∧
      t.interval.length = s.interval.length ∧ t.tariff.active = s.tariff.active ∧
      t.tariff.pending = s.tariff.pending ∧ t.tariff.pendingState = s.tariff.pendingState ∧
      t.tariff.activation = s.tariff.activation ∧ t.tariff.freezes = s.tariff.freezes ∧
      t.tariff.freezeDay = s.tariff.freezeDay ∧ t.log.committed = s.log.committed ∧
      t.envelope.fallback = s.envelope.fallback ∧ t.pulse.divisor = s.pulse.divisor ∧
      t.engine.rights = s.engine.rights ∧ t.engine.enables = s.engine.enables ∧
      t.store.image = s.store.image ∧ t.store.copyY = s.store.copyY ∧ t.store.copyWrite = none ∧ t.log.queue = [] ∧
      t.netting.accumulators = ⟨⟨0, 0, 0⟩, 0⟩ ∧ t.envelope.term.inForce = false
    let keeps (t : State) : Prop := settings t ∧ t.store.mark = s.store.mark ∧ t.store.copyX = s.store.copyX
    let counters (t : State) (invalid late : Phase → Nat) : Prop :=
      ∀ φ, (t.assembly.links.get φ).invalidFrames = invalid φ ∧ (t.assembly.links.get φ).lateFrames = late φ
    (s.store.state = .running ∨ s.store.state = .saving ∨ s.store.state = .restoring →
      ∃ t u v, exec (.saveDefeated .plain) s = .next t ∧ exec (.saveDefeated .betweenCopies) s = .next u ∧
        exec (.saveDefeated .beforeErasure) s = .next v ∧ keeps t ∧ settings u ∧ settings v ∧
        u.store.mark = s.store.mark ∧ v.store.copyX = s.store.copyX ∧
        (s.store.state = .saving → s.store.cause = .clearAll → s.store.write = .idle → atRest s = true →
          u.store.copyX = none) ∧
        (s.store.cause ≠ .clearAll ∨ s.store.state ≠ .saving → u.store.copyX = s.store.copyX) ∧
        (s.store.state = .restoring → s.store.notice.kind = .warm → (∀ b, b ∈ s.store.waiting) →
          v.store.mark = true) ∧
        (s.store.state ≠ .restoring ∨ s.store.notice.kind ≠ .warm ∨ (∃ b, b ∉ s.store.waiting) →
          v.store.mark = s.store.mark) ∧
        ∀ x ∈ [t, u, v], x.store.backup = s.store.backup ∧
          counters x (fun φ => (s.assembly.links.get φ).invalidFrames)
            (fun φ => (s.assembly.links.get φ).lateFrames)) ∧
    (s.store.state = .dormant →
      ∃ t, exec .vddLoss s = .next t ∧ keeps t ∧ t.store.backup = s.store.backup ∧
        counters t (fun φ => (s.assembly.links.get φ).invalidFrames)
          (fun φ => (s.assembly.links.get φ).lateFrames)) ∧
    (s.store.state ≠ .unpowered → ∃ t, exec .backupDomainLoss s = .next t ∧ keeps t ∧
      t.store.backup = ⟨⟨0, 0⟩, false, false⟩ ∧ counters t (fun _ => 0) (fun _ => 0)) ∧
    (s.store.state = .unpowered → exec .backupDomainLoss s = .next { s with
      store := { s.store with backup := ⟨⟨0, 0⟩, false, false⟩ }
      assembly := { s.assembly with links := .of fun φ =>
        { s.assembly.links.get φ with invalidFrames := 0, lateFrames := 0 } } }) ∧
    (s.store.state = .running → exec .backupClockTick s = .next s) ∧
    (s.store.state ≠ .running → ∃ b, exec .backupClockTick s = .next { s with store := { s.store with backup := b } } ∧
      b.valid = s.store.backup.valid ∧
      (s.store.backup.time.second < 86399 →
        b.time = ⟨s.store.backup.time.day, s.store.backup.time.second + 1⟩ ∧ b.set = s.store.backup.set) ∧
      (s.store.backup.time.second = 86399 → s.store.backup.time.day < 65535 →
        b.time = ⟨s.store.backup.time.day + 1, 0⟩ ∧ b.set = s.store.backup.set) ∧
      (s.store.backup.time = ⟨65535, 86399⟩ → b.time = ⟨0, 0⟩ ∧ b.set = false))

/-- In RESTORING, a block still waited for takes its notice once. The assembly: every link in use DOWN, quality
LOST, no open set, counters and classes kept but for COLD. Metrology: running second and M 0, live values not
valid, calibration kept but for COLD. Netting: accumulators and totals of the image on WARM, totals of the
checkpoint and accumulators 0 on CHECKPOINT, all 0 on COLD; a pending basis takes force. Time base: on WARM the
backup clock's time when VALID, else the saved time, and SET only from a VALID SET clock, with the image's slew
and step; on CHECKPOINT the newest record's end when the clock is INVALID; day 0 UNSET on COLD. A block not
waited for changes nothing. (R19, R36, R55, R74) -/
def Obligations.SensingAndMeteringRestores : Prop :=
  ∀ s : State, s.store.state = .restoring →
    let n := s.store.notice
    let took (b : Block) (t : State) : Prop :=
      t.store = { s.store with waiting := s.store.waiting.filter fun x => x != b }
    (Block.assembly ∉ s.store.waiting → exec .assemblyRestore s = .next s) ∧
    (Block.assembly ∈ s.store.waiting → ∃ t, exec .assemblyRestore s = .next t ∧ took .assembly t ∧
      t.assembly.phases = (if n.kind = .cold then .three else s.assembly.phases) ∧ t.assembly.openSets = [] ∧
      ∀ φ, let l := s.assembly.links.get φ
        let inUse := t.assembly.phases = .three ∨ φ = .p1
        t.assembly.links.get φ = ⟨if inUse then .down else .disabled,
          if n.kind = .cold then 2 else l.configuredClass, 0, 0, 0, .empty, 0,
          if n.kind = .cold then 0 else l.invalidFrames, if n.kind = .cold then 0 else l.lateFrames⟩ ∧
        t.assembly.quality.get φ = (if inUse then .lost else .disabled) ∧
        t.assembly.substitutionRun.get φ = 0) ∧
    (Block.metrology ∉ s.store.waiting → exec .metrologyRestore s = .next s) ∧
    (Block.metrology ∈ s.store.waiting → ∃ t, exec .metrologyRestore s = .next t ∧ took .metrology t ∧
      t.metrology.running.sets = 0 ∧ t.metrology.running.sum = ⟨0, 0, 0⟩ ∧ t.metrology.mean = ⟨0, 0, 0⟩ ∧
      t.metrology.live.valid = false ∧ t.metrology.notices = [] ∧ t.metrology.heldSets = [] ∧
      (n.kind ≠ .cold → t.metrology.calibration = s.metrology.calibration ∧
        t.metrology.creepThreshold = s.metrology.creepThreshold) ∧
      (n.kind = .cold → t.metrology.creepThreshold = 50 ∧
        ∀ φ, t.metrology.calibration.get φ = ⟨32768, 32768, 0, 0⟩)) ∧
    (Block.netting ∉ s.store.waiting → exec .nettingRestore s = .next s) ∧
    (Block.netting ∈ s.store.waiting → ∃ t, exec .nettingRestore s = .next t ∧ took .netting t ∧
      t.netting.testAccumulator = 0 ∧ t.netting.held = [] ∧ t.netting.awaiting = false ∧
      t.netting.pendingBasis = none ∧
      t.netting.basis = (if n.kind = .cold then .vector else s.netting.pendingBasis.getD s.netting.basis) ∧
      (∀ i, n.kind = .warm → n.image = some i →
        t.netting.accumulators = i.accumulators ∧ t.netting.totals = i.totals) ∧
      (n.kind ≠ .warm → t.netting.accumulators = ⟨⟨0, 0, 0⟩, 0⟩) ∧
      (∀ c, n.kind = .checkpoint → n.checkpoint = some c → t.netting.totals = c.totals) ∧
      (n.kind = .cold → t.netting.totals = ⟨⟨0, 0, 0⟩, ⟨0, 0, 0⟩, 0, 0⟩)) ∧
    (Block.timeBase ∉ s.store.waiting → exec .timeBaseRestore s = .next s) ∧
    (Block.timeBase ∈ s.store.waiting → ∃ t, exec .timeBaseRestore s = .next t ∧ took .timeBase t ∧
      t.timeBase.counted = 0 ∧
      (n.kind = .cold → t.timeBase.start = ⟨0, 0⟩ ∧ t.timeBase.set = false) ∧
      (n.kind ≠ .cold → n.reading.valid = true →
        t.timeBase.start = n.reading.time ∧ t.timeBase.set = n.reading.set) ∧
      (n.kind ≠ .cold → n.reading.valid = false → t.timeBase.set = false) ∧
      (∀ i, n.kind = .warm → n.image = some i → t.timeBase.slew = i.slew ∧ t.timeBase.step = i.step ∧
        (n.reading.valid = false → t.timeBase.start = i.start)) ∧
      (n.kind ≠ .warm → t.timeBase.slew = 0 ∧ t.timeBase.step = none) ∧
      (n.kind = .checkpoint → n.reading.valid = false → s.log.committed.records = [] →
        t.timeBase.start = ⟨0, 0⟩) ∧
      (∀ rs r, n.kind = .checkpoint → n.reading.valid = false → s.log.committed.records = rs ++ [r] →
        r.body.finish.second < 86400 →
        t.timeBase.start = ⟨r.body.finish.day, r.body.finish.second⟩))

/-- In RESTORING, with the block still waited for. Interval unit, after the log: a tally with power-lost, and
checkpoint on that kind, opens at the restored time; on WARM the interrupted tally's record goes to the log with
power-lost, ending at the saved time (with the clock mark of the image, the model's choice: assumption log, 18),
with INTERVAL_CLOSED raised. Tariff: registers, next number, pending freeze and reference of the image on WARM;
registers of the checkpoint and no pending freeze on CHECKPOINT; 0 and 1 on COLD; no claim. Log: the committed
records, contexts IDLE, N as committed on WARM and the greater of it and the checkpoint's on CHECKPOINT.
Envelope: monitor CLEAR, site UNLIMITED, the term less the outage on WARM while any is left, otherwise LAPSED.
Pulse unit: NORMAL, nothing pending, settings kept but for COLD. Engine: no cursor, no queue, pointer SERVICE.
(R75, R97, R114, R131, R132, R143, R173) -/
def Obligations.BillingAndPortRestores : Prop :=
  ∀ s : State, s.store.state = .restoring →
    let n := s.store.notice
    let took (b : Block) (t : State) : Prop :=
      t.store = { s.store with waiting := s.store.waiting.filter fun x => x != b }
    (Block.log ∉ s.store.waiting → Block.interval ∈ s.store.waiting →
      ∃ t, exec .intervalRestore s = .next t ∧ took .interval t ∧ t.interval.tally.seconds = 0 ∧
      t.interval.tally.flags = ⟨false, false, true, decide (n.kind = .checkpoint), false, false, false, false⟩ ∧
      t.interval.tally.start = markTime (restoredTime n s.log.committed) (restoredSet n) ∧
      t.interval.length = (if n.kind = .cold then 15 else s.interval.pendingLength.getD s.interval.length) ∧
      t.interval.tally.length = t.interval.length ∧ t.interval.pendingLength = none ∧
      t.interval.summaries = [] ∧ t.interval.statuses = [] ∧ t.interval.dispatch = none ∧
      (∀ i, n.kind = .warm → n.image = some i → 0 < i.tally.seconds → Latched .intervalClosed t ∧
        ∃ r, t.wires.records = s.wires.records ++ [r] ∧ r.start = i.tally.start ∧
          r.finish = ⟨i.start.day, i.start.second, i.clockSet⟩ ∧ r.flags.powerLost = true ∧
          r.importWh = i.tally.importWh ∧ r.exportWh = i.tally.exportWh) ∧
      (n.kind ≠ .warm → t.wires.records = s.wires.records)) ∧
    (Block.tariff ∈ s.store.waiting → ∃ t, exec .tariffRestore s = .next t ∧ took .tariff t ∧
      t.tariff.claim = none ∧ t.tariff.lastFiling = none ∧
      (∀ i, n.kind = .warm → n.image = some i → t.tariff.registers = i.registers ∧
        t.tariff.nextFreeze = i.nextFreeze ∧ t.tariff.pendingFreeze = i.pendingFreeze ∧
        t.tariff.freezeReference = i.freezeReference) ∧
      (∀ c, n.kind = .checkpoint → n.checkpoint = some c → t.tariff.registers = c.registers ∧
        t.tariff.pendingFreeze = none ∧ (s.tariff.freezes = [] → t.tariff.nextFreeze = c.nextFreeze ∧
          t.tariff.freezeReference = c.freezeReference)) ∧
      (n.kind ≠ .cold → t.tariff.active = s.tariff.active ∧ t.tariff.pending = s.tariff.pending ∧
        t.tariff.pendingState = s.tariff.pendingState ∧ t.tariff.freezes = s.tariff.freezes) ∧
      (n.kind = .cold → t.tariff.nextFreeze = 1 ∧ t.tariff.freezes = [] ∧
        ∀ b, t.tariff.registers.imported.get b = 0 ∧ t.tariff.registers.exported.get b = 0)) ∧
    (Block.log ∈ s.store.waiting → ∃ t, exec .logRestore s = .next t ∧ took .log t ∧ t.log.queue = [] ∧
      (∀ p, t.log.contexts.get p = ⟨false, 0, 0⟩) ∧
      (n.kind ≠ .cold → t.log.records = s.log.committed.records ∧ t.log.committed = s.log.committed) ∧
      (n.kind = .warm → t.log.next = s.log.committed.next) ∧
      (∀ c, n.kind = .checkpoint → n.checkpoint = some c →
        t.log.next = max c.logNext s.log.committed.next) ∧
      (n.kind = .cold → t.log.records = [] ∧ t.log.next = 1)) ∧
    (Block.envelope ∈ s.store.waiting → ∃ t, exec .envelopeRestore s = .next t ∧ took .envelope t ∧
      t.envelope.monitor = ⟨.clear, .none, 0, 0⟩ ∧ t.envelope.line = false ∧ t.envelope.site = .unlimited ∧
      t.envelope.last.evaluated = false ∧
      (n.kind ≠ .cold → t.envelope.fallback = s.envelope.fallback ∧ t.envelope.grace = s.envelope.grace ∧
        t.envelope.band = s.envelope.band ∧ t.envelope.hold = s.envelope.hold) ∧
      (n.kind ≠ .warm → t.envelope.term.inForce = false) ∧
      (∀ i d : Nat, ∀ image, n.kind = .warm → n.image = some image → image.term.inForce = true →
        n.reading.valid = true → image.start.day * 86400 + image.start.second = i →
        n.reading.time.day * 86400 + n.reading.time.second = i + d →
        (d < image.term.validity →
          t.envelope.term = ⟨true, image.term.limit, image.term.validity - d⟩) ∧
        (image.term.validity ≤ d → t.envelope.term.inForce = false ∧ Latched .limitLapsed t)) ∧
      (∀ image, n.kind = .warm → n.image = some image → image.term.inForce = true →
        n.reading.valid = false → t.envelope.term.inForce = false ∧ Latched .limitLapsed t)) ∧
    (Block.pulse ∈ s.store.waiting → ∃ t, exec .pulseRestore s = .next t ∧ took .pulse t ∧
      t.pulse.test = false ∧ t.pulse.pendingCount = 0 ∧ t.pulse.dropped = 0 ∧ t.pulse.generator = .idle ∧
      t.pulse.testImport = 0 ∧ t.pulse.testExport = 0 ∧ t.pulse.timer = 0 ∧
      (n.kind ≠ .cold → t.pulse.source = s.pulse.source ∧ t.pulse.activeWidth = s.pulse.activeWidth ∧
        t.pulse.gapWidth = s.pulse.gapWidth ∧ t.pulse.divisor = s.pulse.divisor ∧
        t.pulse.timeout = s.pulse.timeout)) ∧
    (Block.engine ∈ s.store.waiting → ∃ t, exec .engineRestore s = .next t ∧ took .engine t ∧
      t.engine.queues = .all [] ∧ t.engine.pointer = .service ∧ t.engine.cursors = .all .unset ∧
      t.engine.latches = s.engine.latches ∧
      (n.kind ≠ .cold → t.engine.rights = s.engine.rights ∧ t.engine.enables = s.engine.enables) ∧
      (n.kind = .cold → t.engine.rights = RightsMap.cold ∧ t.engine.enables = .all 0#15))

/-- In RESTORING with no block waited for and no record on its way to the log: the backup clock is loaded with the
restored time and state, VALID; kind and cause are kept; the outage length is the restored time less the saved
time on a WARM restore with a VALID clock, while that lies from 0 to 4,294,967,295, and NONE when it is
negative, on another kind and with a clock that is not VALID; a difference above 4,294,967,295 is left open (a
free value, assumption log, 5); RESTORED is raised. With SUPOK high the store is RUNNING, the next strobe is 0,
the enable state is CALEN's, and the first second opens; with SUPOK low it is SAVING with cause SUPPLY. While a
block is waited for, or a record is on its way to the log, nothing happens; that the restore waits for the
record is read from the commit that begins during RESTORING (assumption log, 21). A log that has taken its
notice takes in that record under the restored N, the store staying in RESTORING, and its entry is the first of
the commit queue. (R153, R114, R100) -/
def Obligations.RestoreCompletes : Prop :=
  ∀ s : State, s.store.state = .restoring →
    (s.store.waiting ≠ [] ∨ s.wires.records ≠ [] → exec .restoreComplete s = .next s) ∧
    (∀ b bs, Block.log ∉ s.store.waiting → s.wires.records = b :: bs → s.log.queue = [] → s.log.next < 4294967296 →
      ∃ t older, exec .recordIntake s = .next t ∧ t.store = s.store ∧ t.wires.records = bs ∧
        t.log.records = older ++ [⟨s.log.next, b⟩] ∧ older <:+ s.log.records ∧ t.log.next = s.log.next + 1 ∧
        t.log.committed = s.log.committed ∧ t.log.queue = [.intake s.log.next ⟨t.log.records, s.log.next + 1⟩]) ∧
    (s.store.waiting = [] → s.wires.records = [] → ∃ t, exec .restoreComplete s = .next t ∧ Latched .restored t ∧
      t.store.backup = ⟨s.timeBase.start, s.timeBase.set, true⟩ ∧ t.store.lastKind = s.store.notice.kind ∧
      t.store.lastCause = s.store.notice.cause ∧
      (s.store.notice.kind ≠ .warm ∨ s.store.notice.reading.valid = false → t.store.outage = none) ∧
      (∀ image, s.store.notice.kind = .warm → s.store.notice.reading.valid = true →
        s.store.notice.image = some image →
        let saved := image.start.day * 86400 + image.start.second
        let now := s.timeBase.start.day * 86400 + s.timeBase.start.second
        (now < saved → t.store.outage = none) ∧
        (saved ≤ now → now - saved ≤ 4294967295 → t.store.outage = some (now - saved))) ∧
      (s.store.supok = true → t.store.state = .running ∧ t.assembly.strobe = 0#8 ∧ t.assembly.openSets = [] ∧
        t.engine.enable = s.engine.calen ∧ t.timeBase.counted = 0 ∧ t.timeBase.start = s.timeBase.start) ∧
      (s.store.supok = false → t.store.state = .saving ∧ t.store.cause = .supply))

/-- In RUNNING or SAVING a closing of CALEN leaves the enable CLOSED and an opening leaves it OPEN, with CAL_SWITCH
raised. The opening takes a part in TEST to NORMAL with cause SWITCH, and ends a claim that the service port
holds under map rights to WRITE SCHEDULE, with CLAIM_LOST at that port. A level that does not change, and a
change in other states, raise nothing and leave the enable as it was. (R168, R140, R84) -/
def Obligations.CalenChange : Prop :=
  ∀ s : State,
    exec (.calenChange s.engine.calen) s = .next s ∧
    (∀ c, c ≠ s.engine.calen →
      (s.store.state ≠ .running → s.store.state ≠ .saving →
        exec (.calenChange c) s = .next { s with engine := { s.engine with calen := c } }) ∧
      (s.store.state = .running ∨ s.store.state = .saving → ∃ t, exec (.calenChange c) s = .next t ∧
        t.engine.calen = c ∧ t.engine.enable = c ∧ Latched .calSwitch t ∧
        t.tariff.pending = s.tariff.pending ∧ t.tariff.pendingState = s.tariff.pendingState ∧
        (c = true → t.tariff = s.tariff ∧ t.pulse = s.pulse) ∧
        (c = false → s.pulse.test = true → Latched .testModeChange t ∧ t.pulse = { s.pulse with
          test := false, pendingCount := 0, timer := 0, lastExit := .switch }) ∧
        (c = false → s.pulse.test = false → t.pulse = s.pulse) ∧
        (c = false → s.tariff.claim = some .service → mapRight s.engine .service .schedule = .write →
          t.tariff.claim = none ∧
            t.engine.latches.get .service &&& eventSet .claimLost = eventSet .claimLost) ∧
        (s.tariff.claim ≠ some .service → t.tariff = s.tariff)))

/-- In RUNNING a start byte in HUNT begins a frame; a length no request has and a gap end it without effect; a frame
whose check is wrong is dropped; a whole right frame passes its request on and leaves HUNT. A request joins its
port's queue while fewer than three wait, if the engine is busy; at three it is answered FULL with its tag, and
while a FULL answer of the port is unsent it is dropped. Outside RUNNING no frame is received. (R156, R157) -/
def Obligations.FrontEnds : Prop :=
  ∀ (p : Port) (s : State),
    let hunting : State := { s with engine := { s.engine with frontEnds := s.engine.frontEnds.set p .hunt } }
    (s.store.state ≠ .running → exec (.frameStart p) s = .next s ∧ exec (.frameGap p) s = .next s ∧
      ∀ body check, exec (.requestFrame p body check) s = .next s) ∧
    (s.store.state = .running → s.engine.frontEnds.get p = .hunt → exec (.frameStart p) s = .next
      { s with engine := { s.engine with frontEnds := s.engine.frontEnds.set p .receiving } }) ∧
    (s.store.state = .running → s.engine.frontEnds.get p = .receiving →
      exec (.frameGap p) s = .next hunting ∧
      (∀ n : Byte, n.toNat ≠ 4 → n.toNat ≠ 5 → n.toNat ≠ 8 → n.toNat ≠ 12 →
        exec (.frameLengthReject p n) s = .next hunting) ∧
      (∀ body check, (body.length = 4 ∨ body.length = 5 ∨ body.length = 8 ∨ body.length = 12) →
        (check ≠ BitVec.ofNat 16 (body.length + byteSum body) →
          exec (.requestFrame p body check) s = .next hunting) ∧
        (check = BitVec.ofNat 16 (body.length + byteSum body) → ∀ q, s.engine.state = .sending q →
          ((s.engine.queues.get p).length < 3 → exec (.requestFrame p body check) s = .next
            { hunting with engine := { hunting.engine with
                queues := s.engine.queues.set p (s.engine.queues.get p ++ [requestOf body]) } }) ∧
          (3 ≤ (s.engine.queues.get p).length →
            ((∀ g, Answer.full g ∉ s.engine.outbox.get p) → exec (.requestFrame p body check) s = .next
              { hunting with engine := { hunting.engine with
                outbox := s.engine.outbox.set p (s.engine.outbox.get p ++ [.full (requestOf body).tag]) } }) ∧
            ((∃ g, Answer.full g ∈ s.engine.outbox.get p) →
              exec (.requestFrame p body check) s = .next hunting)))))

/-- For every request that a frame can carry (a count byte and no operand, or none, one or two operands and no count
byte) the body that spells it has a length a request frame can have, and reading that body gives the request
back, with every tag, kind byte, object number, count and operand. Two requests with the same body are the same,
and the seven kinds have seven codes. (R175) -/
def Obligations.FrameRoundTrip : Prop :=
  (∀ r : Request, (r.count ≠ none ∧ r.operands = [] ∨ r.count = none ∧ r.operands.length ≤ 2) →
    (bodyOf r).length ∈ bodyLengths ∧ requestOf (bodyOf r) = r) ∧
  (∀ body : List Byte, body.length ∈ bodyLengths → bodyOf (requestOf body) = body) ∧
  (∀ k k' : Kind, kindCode k = kindCode k' → k = k') ∧ ∀ k : Kind, kindNamed (kindCode k) = some k

/-- When the answer of an executed request has left its port, it is gone from the outbox and its bytes are those of
its frame; with no request waiting the engine is IDLE. With requests waiting in RUNNING the next is taken from
the first port after the pointer that has one, the pointer names that port and the engine is SENDING for it. A
FULL answer at the head of its port's outbox leaves it when sent, and the engine's state does not change. (R158,
R159) -/
def Obligations.AnswersAndRotation : Prop :=
  ∀ (p : Port) (s : State),
    (∀ g rest, s.engine.outbox.get p = .full g :: rest → exec (.fullAnswerSent p) s = .next
      { s with engine := { s.engine with
          outbox := s.engine.outbox.set p rest, txd := s.engine.txd.set p (answerFrame (.full g)) } }) ∧
    (∀ g r rest, s.engine.state = .sending p → s.engine.outbox.get p = .executed g r :: rest →
      let sent : State := { s with engine := { s.engine with
        outbox := s.engine.outbox.set p rest, txd := s.engine.txd.set p (answerFrame (.executed g r))
        state := .idle } }
      (s.engine.queues = .all [] ∨ s.store.state ≠ .running → exec .answerSent s = .next sent) ∧
      (s.store.state = .running → ∀ q x xs, s.engine.queues.get q = x :: xs →
        (∀ before after, rotationAfter s.engine.pointer = before ++ q :: after →
          ∀ y ∈ before, s.engine.queues.get y = []) →
        ∃ t, exec .answerSent s = .next t ∧ t.engine.pointer = q ∧ t.engine.state = .sending q ∧
          ∃ reply, (t.engine.outbox.get q).getLast? = some (.executed x.tag reply)))

/-- For every state whose accumulators, in the netting unit, in the save images and in the summaries that feed them,
are lawful, the next state's are lawful too; in a lawful state the difference of the sum accumulator and the
three phase accumulators is k Q for a whole k from -3 to 3. (R40) -/
def Obligations.AccumulatorsKept : Prop :=
  (∀ s t : State, AccumulatorLaw s → step s = .next t → AccumulatorLaw t) ∧
  ∀ s : State, AccumulatorLaw s → ∃ k : Int, -3 ≤ k ∧ k ≤ 3 ∧
    s.netting.accumulators.sum - (s.netting.accumulators.phase.p1 + s.netting.accumulators.phase.p2 +
      s.netting.accumulators.phase.p3) = k * 235929600000

/-- For every state in which the records held, committed and being committed are in strictly rising sequence from 1
up, below their N, and in at most 2,048 slots, they are so in the next state. (R98, R100, R101) -/
def Obligations.LogKept : Prop :=
  ∀ s t : State, LogLaw s → step s = .next t → LogLaw t

/-- For every state that keeps the engine's law (at most three requests wait at a port, none while the engine is
IDLE or the store is not RUNNING; a port has at most one unsent FULL answer, and an unsent answer of an executed
request exactly while the engine is SENDING for it), the next state keeps it. (R157, R158, R159) -/
def Obligations.EngineKept : Prop :=
  ∀ s t : State, EngineLaw s → step s = .next t → EngineLaw t

/-- For every state whose registers, totals, test counters and their saved copies are below 1,000,000,000 and whose
settings lie in their ranges, both hold of the next state. (R8, R21, R22, R31, R47, R66, R76, R92, R119, R120,
R126, R136, R138, R139, R141) -/
def Obligations.BoundsKept : Prop :=
  ∀ s t : State, WhBounded s → SettingsLegal s → step s = .next t → WhBounded t ∧ SettingsLegal t

/-- For every state in which each attention line is active exactly while its port's latch and enable sets meet
outside DORMANT, the curtail line exactly in CURTAILING and HOLDING, the pending count is at most 4,095, and a
held claim goes with an EDITING schedule, all four hold of the next state. (R127, R133, R172, R82) -/
def Obligations.LinesKept : Prop :=
  ∀ s t : State, LinesAgree s → LineFollowsMonitor s → PulsesBounded s → ClaimEdits s → step s = .next t →
    LinesAgree t ∧ LineFollowsMonitor t ∧ PulsesBounded t ∧ ClaimEdits t
end

