-- ==== Sys2Proof/Laws/State.lean ====
section
/-! SUPPORT. The small lemmas of the state: containers, and what the flag operations leave as it was. -/

namespace Sys2Proof.Machine

/-! ## Containers -/

@[simp] theorem PerPhase.get_set_same {α : Type} (v : PerPhase α) (φ : Phase) (x : α) : (v.set φ x).get φ = x := by
  cases φ <;> rfl

theorem PerPhase.get_set_ne {α : Type} (v : PerPhase α) {φ ψ : Phase} (x : α) (h : ψ ≠ φ) :
    (v.set φ x).get ψ = v.get ψ := by
  cases φ <;> cases ψ <;> first | rfl | exact absurd rfl h

@[simp] theorem PerPhase.get_of {α : Type} (f : Phase → α) (φ : Phase) : (PerPhase.of f).get φ = f φ := by
  cases φ <;> rfl

@[simp] theorem PerPhase.get_all {α : Type} (x : α) (φ : Phase) : (PerPhase.all x).get φ = x := by
  cases φ <;> rfl

@[simp] theorem PerPhase.set_get {α : Type} (v : PerPhase α) (φ : Phase) : v.set φ (v.get φ) = v := by
  cases φ <;> rfl

theorem PerPhase.ext_get {α : Type} {v w : PerPhase α} (h : ∀ φ, v.get φ = w.get φ) : v = w := by
  obtain ⟨a, b, c⟩ := v
  obtain ⟨d, e, f⟩ := w
  have h1 := h .p1
  have h2 := h .p2
  have h3 := h .p3
  simp_all [PerPhase.get]

@[simp] theorem PerPort.get_set_same {α : Type} (v : PerPort α) (p : Port) (x : α) : (v.set p x).get p = x := by
  cases p <;> rfl

theorem PerPort.get_set_ne {α : Type} (v : PerPort α) {p q : Port} (x : α) (h : q ≠ p) :
    (v.set p x).get q = v.get q := by
  cases p <;> cases q <;> first | rfl | exact absurd rfl h

@[simp] theorem PerPort.get_of {α : Type} (f : Port → α) (p : Port) : (PerPort.of f).get p = f p := by
  cases p <;> rfl

@[simp] theorem PerPort.get_all {α : Type} (x : α) (p : Port) : (PerPort.all x).get p = x := by
  cases p <;> rfl

@[simp] theorem PerPort.set_get {α : Type} (v : PerPort α) (p : Port) : v.set p (v.get p) = v := by
  cases p <;> rfl

@[simp] theorem PerPort.set_set {α : Type} (v : PerPort α) (p : Port) (x y : α) : (v.set p x).set p y = v.set p y := by
  cases p <;> rfl

@[simp] theorem PerPort.all_set {α : Type} (p : Port) (x : α) : (PerPort.all x).set p x = PerPort.all x := by
  cases p <;> rfl

theorem PerPort.ext_get {α : Type} {v w : PerPort α} (h : ∀ p, v.get p = w.get p) : v = w := by
  obtain ⟨a, b, c⟩ := v
  obtain ⟨d, e, f⟩ := w
  have h1 := h .utility
  have h2 := h .premises
  have h3 := h .service
  simp_all [PerPort.get]

/-! ## Attention lines -/

@[simp] theorem setLines_identity (s : State) : (setLines s).identity = s.identity := rfl
@[simp] theorem setLines_assembly (s : State) : (setLines s).assembly = s.assembly := rfl
@[simp] theorem setLines_metrology (s : State) : (setLines s).metrology = s.metrology := rfl
@[simp] theorem setLines_netting (s : State) : (setLines s).netting = s.netting := rfl
@[simp] theorem setLines_timeBase (s : State) : (setLines s).timeBase = s.timeBase := rfl
@[simp] theorem setLines_interval (s : State) : (setLines s).interval = s.interval := rfl
@[simp] theorem setLines_tariff (s : State) : (setLines s).tariff = s.tariff := rfl
@[simp] theorem setLines_log (s : State) : (setLines s).log = s.log := rfl
@[simp] theorem setLines_envelope (s : State) : (setLines s).envelope = s.envelope := rfl
@[simp] theorem setLines_pulse (s : State) : (setLines s).pulse = s.pulse := rfl
@[simp] theorem setLines_store (s : State) : (setLines s).store = s.store := rfl
@[simp] theorem setLines_wires (s : State) : (setLines s).wires = s.wires := rfl
@[simp] theorem setLines_freeCount (s : State) : (setLines s).freeCount = s.freeCount := rfl
@[simp] theorem setLines_pending (s : State) : (setLines s).pending = s.pending := rfl
@[simp] theorem setLines_engine_frontEnds (s : State) : (setLines s).engine.frontEnds = s.engine.frontEnds := rfl
@[simp] theorem setLines_engine_queues (s : State) : (setLines s).engine.queues = s.engine.queues := rfl
@[simp] theorem setLines_engine_state (s : State) : (setLines s).engine.state = s.engine.state := rfl
@[simp] theorem setLines_engine_pointer (s : State) : (setLines s).engine.pointer = s.engine.pointer := rfl
@[simp] theorem setLines_engine_cursors (s : State) : (setLines s).engine.cursors = s.engine.cursors := rfl
@[simp] theorem setLines_engine_rights (s : State) : (setLines s).engine.rights = s.engine.rights := rfl
@[simp] theorem setLines_engine_calen (s : State) : (setLines s).engine.calen = s.engine.calen := rfl
@[simp] theorem setLines_engine_enable (s : State) : (setLines s).engine.enable = s.engine.enable := rfl
@[simp] theorem setLines_engine_enables (s : State) : (setLines s).engine.enables = s.engine.enables := rfl
@[simp] theorem setLines_engine_outbox (s : State) : (setLines s).engine.outbox = s.engine.outbox := rfl
@[simp] theorem setLines_engine_txd (s : State) : (setLines s).engine.txd = s.engine.txd := rfl
@[simp] theorem setLines_engine_latches (s : State) : (setLines s).engine.latches = s.engine.latches := rfl

/-! ## Raised events -/

@[simp] theorem raise_identity (k : EventKind) (s : State) : (raise k s).identity = s.identity := by unfold raise; split <;> rfl
@[simp] theorem raise_assembly (k : EventKind) (s : State) : (raise k s).assembly = s.assembly := by unfold raise; split <;> rfl
@[simp] theorem raise_metrology (k : EventKind) (s : State) : (raise k s).metrology = s.metrology := by unfold raise; split <;> rfl
@[simp] theorem raise_netting (k : EventKind) (s : State) : (raise k s).netting = s.netting := by unfold raise; split <;> rfl
@[simp] theorem raise_timeBase (k : EventKind) (s : State) : (raise k s).timeBase = s.timeBase := by unfold raise; split <;> rfl
@[simp] theorem raise_interval (k : EventKind) (s : State) : (raise k s).interval = s.interval := by unfold raise; split <;> rfl
@[simp] theorem raise_tariff (k : EventKind) (s : State) : (raise k s).tariff = s.tariff := by unfold raise; split <;> rfl
@[simp] theorem raise_log (k : EventKind) (s : State) : (raise k s).log = s.log := by unfold raise; split <;> rfl
@[simp] theorem raise_envelope (k : EventKind) (s : State) : (raise k s).envelope = s.envelope := by unfold raise; split <;> rfl
@[simp] theorem raise_pulse (k : EventKind) (s : State) : (raise k s).pulse = s.pulse := by unfold raise; split <;> rfl
@[simp] theorem raise_store (k : EventKind) (s : State) : (raise k s).store = s.store := by unfold raise; split <;> rfl
@[simp] theorem raise_wires (k : EventKind) (s : State) : (raise k s).wires = s.wires := by unfold raise; split <;> rfl
@[simp] theorem raise_freeCount (k : EventKind) (s : State) : (raise k s).freeCount = s.freeCount := by unfold raise; split <;> rfl
@[simp] theorem raise_pending (k : EventKind) (s : State) : (raise k s).pending = s.pending := by unfold raise; split <;> rfl
@[simp] theorem raise_engine_frontEnds (k : EventKind) (s : State) :
    (raise k s).engine.frontEnds = s.engine.frontEnds := by unfold raise; split <;> rfl
@[simp] theorem raise_engine_queues (k : EventKind) (s : State) :
    (raise k s).engine.queues = s.engine.queues := by unfold raise; split <;> rfl
@[simp] theorem raise_engine_state (k : EventKind) (s : State) :
    (raise k s).engine.state = s.engine.state := by unfold raise; split <;> rfl
@[simp] theorem raise_engine_pointer (k : EventKind) (s : State) :
    (raise k s).engine.pointer = s.engine.pointer := by unfold raise; split <;> rfl
@[simp] theorem raise_engine_cursors (k : EventKind) (s : State) :
    (raise k s).engine.cursors = s.engine.cursors := by unfold raise; split <;> rfl
@[simp] theorem raise_engine_rights (k : EventKind) (s : State) :
    (raise k s).engine.rights = s.engine.rights := by unfold raise; split <;> rfl
@[simp] theorem raise_engine_calen (k : EventKind) (s : State) :
    (raise k s).engine.calen = s.engine.calen := by unfold raise; split <;> rfl
@[simp] theorem raise_engine_enable (k : EventKind) (s : State) :
    (raise k s).engine.enable = s.engine.enable := by unfold raise; split <;> rfl
@[simp] theorem raise_engine_enables (k : EventKind) (s : State) :
    (raise k s).engine.enables = s.engine.enables := by unfold raise; split <;> rfl
@[simp] theorem raise_engine_outbox (k : EventKind) (s : State) :
    (raise k s).engine.outbox = s.engine.outbox := by unfold raise; split <;> rfl
@[simp] theorem raise_engine_txd (k : EventKind) (s : State) :
    (raise k s).engine.txd = s.engine.txd := by unfold raise; split <;> rfl

@[simp] theorem raiseFor_identity (k : EventKind) (p : Port) (s : State) : (raiseFor k p s).identity = s.identity := by unfold raiseFor; split <;> rfl
@[simp] theorem raiseFor_assembly (k : EventKind) (p : Port) (s : State) : (raiseFor k p s).assembly = s.assembly := by unfold raiseFor; split <;> rfl
@[simp] theorem raiseFor_metrology (k : EventKind) (p : Port) (s : State) : (raiseFor k p s).metrology = s.metrology := by unfold raiseFor; split <;> rfl
@[simp] theorem raiseFor_netting (k : EventKind) (p : Port) (s : State) : (raiseFor k p s).netting = s.netting := by unfold raiseFor; split <;> rfl
@[simp] theorem raiseFor_timeBase (k : EventKind) (p : Port) (s : State) : (raiseFor k p s).timeBase = s.timeBase := by unfold raiseFor; split <;> rfl
@[simp] theorem raiseFor_interval (k : EventKind) (p : Port) (s : State) : (raiseFor k p s).interval = s.interval := by unfold raiseFor; split <;> rfl
@[simp] theorem raiseFor_tariff (k : EventKind) (p : Port) (s : State) : (raiseFor k p s).tariff = s.tariff := by unfold raiseFor; split <;> rfl
@[simp] theorem raiseFor_log (k : EventKind) (p : Port) (s : State) : (raiseFor k p s).log = s.log := by unfold raiseFor; split <;> rfl
@[simp] theorem raiseFor_envelope (k : EventKind) (p : Port) (s : State) : (raiseFor k p s).envelope = s.envelope := by unfold raiseFor; split <;> rfl
@[simp] theorem raiseFor_pulse (k : EventKind) (p : Port) (s : State) : (raiseFor k p s).pulse = s.pulse := by unfold raiseFor; split <;> rfl
@[simp] theorem raiseFor_store (k : EventKind) (p : Port) (s : State) : (raiseFor k p s).store = s.store := by unfold raiseFor; split <;> rfl
@[simp] theorem raiseFor_wires (k : EventKind) (p : Port) (s : State) : (raiseFor k p s).wires = s.wires := by unfold raiseFor; split <;> rfl
@[simp] theorem raiseFor_freeCount (k : EventKind) (p : Port) (s : State) : (raiseFor k p s).freeCount = s.freeCount := by unfold raiseFor; split <;> rfl
@[simp] theorem raiseFor_pending (k : EventKind) (p : Port) (s : State) : (raiseFor k p s).pending = s.pending := by unfold raiseFor; split <;> rfl
@[simp] theorem raiseFor_engine_frontEnds (k : EventKind) (p : Port) (s : State) :
    (raiseFor k p s).engine.frontEnds = s.engine.frontEnds := by unfold raiseFor; split <;> rfl
@[simp] theorem raiseFor_engine_queues (k : EventKind) (p : Port) (s : State) :
    (raiseFor k p s).engine.queues = s.engine.queues := by unfold raiseFor; split <;> rfl
@[simp] theorem raiseFor_engine_state (k : EventKind) (p : Port) (s : State) :
    (raiseFor k p s).engine.state = s.engine.state := by unfold raiseFor; split <;> rfl
@[simp] theorem raiseFor_engine_pointer (k : EventKind) (p : Port) (s : State) :
    (raiseFor k p s).engine.pointer = s.engine.pointer := by unfold raiseFor; split <;> rfl
@[simp] theorem raiseFor_engine_cursors (k : EventKind) (p : Port) (s : State) :
    (raiseFor k p s).engine.cursors = s.engine.cursors := by unfold raiseFor; split <;> rfl
@[simp] theorem raiseFor_engine_rights (k : EventKind) (p : Port) (s : State) :
    (raiseFor k p s).engine.rights = s.engine.rights := by unfold raiseFor; split <;> rfl
@[simp] theorem raiseFor_engine_calen (k : EventKind) (p : Port) (s : State) :
    (raiseFor k p s).engine.calen = s.engine.calen := by unfold raiseFor; split <;> rfl
@[simp] theorem raiseFor_engine_enable (k : EventKind) (p : Port) (s : State) :
    (raiseFor k p s).engine.enable = s.engine.enable := by unfold raiseFor; split <;> rfl
@[simp] theorem raiseFor_engine_enables (k : EventKind) (p : Port) (s : State) :
    (raiseFor k p s).engine.enables = s.engine.enables := by unfold raiseFor; split <;> rfl
@[simp] theorem raiseFor_engine_outbox (k : EventKind) (p : Port) (s : State) :
    (raiseFor k p s).engine.outbox = s.engine.outbox := by unfold raiseFor; split <;> rfl
@[simp] theorem raiseFor_engine_txd (k : EventKind) (p : Port) (s : State) :
    (raiseFor k p s).engine.txd = s.engine.txd := by unfold raiseFor; split <;> rfl

@[simp] theorem raiseIf_identity (c : Bool) (k : EventKind) (s : State) : (raiseIf c k s).identity = s.identity := by unfold raiseIf; split <;> simp
@[simp] theorem raiseIf_assembly (c : Bool) (k : EventKind) (s : State) : (raiseIf c k s).assembly = s.assembly := by unfold raiseIf; split <;> simp
@[simp] theorem raiseIf_metrology (c : Bool) (k : EventKind) (s : State) : (raiseIf c k s).metrology = s.metrology := by unfold raiseIf; split <;> simp
@[simp] theorem raiseIf_netting (c : Bool) (k : EventKind) (s : State) : (raiseIf c k s).netting = s.netting := by unfold raiseIf; split <;> simp
@[simp] theorem raiseIf_timeBase (c : Bool) (k : EventKind) (s : State) : (raiseIf c k s).timeBase = s.timeBase := by unfold raiseIf; split <;> simp
@[simp] theorem raiseIf_interval (c : Bool) (k : EventKind) (s : State) : (raiseIf c k s).interval = s.interval := by unfold raiseIf; split <;> simp
@[simp] theorem raiseIf_tariff (c : Bool) (k : EventKind) (s : State) : (raiseIf c k s).tariff = s.tariff := by unfold raiseIf; split <;> simp
@[simp] theorem raiseIf_log (c : Bool) (k : EventKind) (s : State) : (raiseIf c k s).log = s.log := by unfold raiseIf; split <;> simp
@[simp] theorem raiseIf_envelope (c : Bool) (k : EventKind) (s : State) : (raiseIf c k s).envelope = s.envelope := by unfold raiseIf; split <;> simp
@[simp] theorem raiseIf_pulse (c : Bool) (k : EventKind) (s : State) : (raiseIf c k s).pulse = s.pulse := by unfold raiseIf; split <;> simp
@[simp] theorem raiseIf_store (c : Bool) (k : EventKind) (s : State) : (raiseIf c k s).store = s.store := by unfold raiseIf; split <;> simp
@[simp] theorem raiseIf_wires (c : Bool) (k : EventKind) (s : State) : (raiseIf c k s).wires = s.wires := by unfold raiseIf; split <;> simp
@[simp] theorem raiseIf_freeCount (c : Bool) (k : EventKind) (s : State) : (raiseIf c k s).freeCount = s.freeCount := by unfold raiseIf; split <;> simp
@[simp] theorem raiseIf_pending (c : Bool) (k : EventKind) (s : State) : (raiseIf c k s).pending = s.pending := by unfold raiseIf; split <;> simp
@[simp] theorem raiseIf_engine_frontEnds (c : Bool) (k : EventKind) (s : State) :
    (raiseIf c k s).engine.frontEnds = s.engine.frontEnds := by unfold raiseIf; split <;> simp
@[simp] theorem raiseIf_engine_queues (c : Bool) (k : EventKind) (s : State) :
    (raiseIf c k s).engine.queues = s.engine.queues := by unfold raiseIf; split <;> simp
@[simp] theorem raiseIf_engine_state (c : Bool) (k : EventKind) (s : State) :
    (raiseIf c k s).engine.state = s.engine.state := by unfold raiseIf; split <;> simp
@[simp] theorem raiseIf_engine_pointer (c : Bool) (k : EventKind) (s : State) :
    (raiseIf c k s).engine.pointer = s.engine.pointer := by unfold raiseIf; split <;> simp
@[simp] theorem raiseIf_engine_cursors (c : Bool) (k : EventKind) (s : State) :
    (raiseIf c k s).engine.cursors = s.engine.cursors := by unfold raiseIf; split <;> simp
@[simp] theorem raiseIf_engine_rights (c : Bool) (k : EventKind) (s : State) :
    (raiseIf c k s).engine.rights = s.engine.rights := by unfold raiseIf; split <;> simp
@[simp] theorem raiseIf_engine_calen (c : Bool) (k : EventKind) (s : State) :
    (raiseIf c k s).engine.calen = s.engine.calen := by unfold raiseIf; split <;> simp
@[simp] theorem raiseIf_engine_enable (c : Bool) (k : EventKind) (s : State) :
    (raiseIf c k s).engine.enable = s.engine.enable := by unfold raiseIf; split <;> simp
@[simp] theorem raiseIf_engine_enables (c : Bool) (k : EventKind) (s : State) :
    (raiseIf c k s).engine.enables = s.engine.enables := by unfold raiseIf; split <;> simp
@[simp] theorem raiseIf_engine_outbox (c : Bool) (k : EventKind) (s : State) :
    (raiseIf c k s).engine.outbox = s.engine.outbox := by unfold raiseIf; split <;> simp
@[simp] theorem raiseIf_engine_txd (c : Bool) (k : EventKind) (s : State) :
    (raiseIf c k s).engine.txd = s.engine.txd := by unfold raiseIf; split <;> simp

/-- An event raised for all ports is added to every latch set (R169). -/
theorem raise_latches (k : EventKind) (s : State) (h : latching s.store.state = true) (p : Port) :
    (raise k s).engine.latches.get p = s.engine.latches.get p ||| eventSet k := by
  simp [raise, h]

/-- An event raised for one port is added to that port's latch set (R169). -/
theorem raiseFor_latches (k : EventKind) (p : Port) (s : State) (h : latching s.store.state = true) :
    (raiseFor k p s).engine.latches.get p = s.engine.latches.get p ||| eventSet k := by
  simp [raiseFor, h]

/-- A latched event stays latched when another is raised. -/
theorem raise_latches_mono (k : EventKind) (s : State) (p : Port) (x : EventSet)
    (h : s.engine.latches.get p &&& x = x) : (raise k s).engine.latches.get p &&& x = x := by
  unfold raise
  split
  · simp only [setLines, PerPort.get_of]
    ext i hi
    have := congrArg (fun v : EventSet => v.getLsbD i) h
    simp at this ⊢
    intro hx
    exact Or.inl (this hx)
  · exact h

end Sys2Proof.Machine
end

