-- ==== Sys2Proof/Laws/Blocks.lean ====
section
/-! SUPPORT. What the shared operations of the blocks can do, said once for each: the part of the state an operation
leaves alone (its shape), and the arithmetic of the netting unit, the log and the Wh counts. -/

namespace Sys2Proof.Machine

/-! ## Events and lines (R169, R172) -/

/-- Setting the lines changes the lines alone. -/
theorem setLines_shape (s : State) : ∃ l, setLines s = { s with engine := { s.engine with lines := l } } := ⟨_, rfl⟩

/-- An event changes latches and lines alone. -/
theorem raise_shape (k : EventKind) (s : State) :
    ∃ a l, raise k s = { s with engine := { s.engine with latches := a, lines := l } } := by
  unfold raise
  split
  · exact ⟨_, _, rfl⟩
  · exact ⟨s.engine.latches, s.engine.lines, rfl⟩

/-- An event for one port changes latches and lines alone. -/
theorem raiseFor_shape (k : EventKind) (p : Port) (s : State) :
    ∃ a l, raiseFor k p s = { s with engine := { s.engine with latches := a, lines := l } } := by
  unfold raiseFor
  split
  · exact ⟨_, _, rfl⟩
  · exact ⟨s.engine.latches, s.engine.lines, rfl⟩

/-- A conditional event changes latches and lines alone. -/
theorem raiseIf_shape (c : Bool) (k : EventKind) (s : State) :
    ∃ a l, raiseIf c k s = { s with engine := { s.engine with latches := a, lines := l } } := by
  unfold raiseIf
  split
  · exact raise_shape k s
  · exact ⟨s.engine.latches, s.engine.lines, rfl⟩

/-- After the lines are set they agree with latches and enables. -/
theorem linesAgree_setLines (s : State) : LinesAgree (setLines s) := fun p => by cases p <;> rfl

/-- An event keeps the lines in agreement. -/
theorem LinesAgree.raise {s : State} (h : LinesAgree s) (k : EventKind) : LinesAgree (raise k s) := by
  unfold Machine.raise
  split
  · exact linesAgree_setLines _
  · exact h

/-- An event for one port keeps the lines in agreement. -/
theorem LinesAgree.raiseFor {s : State} (h : LinesAgree s) (k : EventKind) (p : Port) :
    LinesAgree (raiseFor k p s) := by
  unfold Machine.raiseFor
  split
  · exact linesAgree_setLines _
  · exact h

/-- A conditional event keeps the lines in agreement. -/
theorem LinesAgree.raiseIf {s : State} (h : LinesAgree s) (c : Bool) (k : EventKind) :
    LinesAgree (raiseIf c k s) := by
  unfold Machine.raiseIf
  split
  · exact h.raise k
  · exact h

/-- What the lines agree with: the store's state, the latches, the enables and the lines themselves. -/
theorem LinesAgree.of_eq {s t : State} (h : LinesAgree s) (hs : latching t.store.state = latching s.store.state)
    (hl : t.engine.latches = s.engine.latches) (he : t.engine.enables = s.engine.enables)
    (hn : t.engine.lines = s.engine.lines) : LinesAgree t := by
  intro p
  rw [hn, hl, he, h p]
  unfold attention
  rw [hs]

/-! ## Sensing (R1 to R16) -/

/-- A link state change touches its link, the open sets, latches and lines alone (R4). -/
theorem changeLink_shape (φ : Phase) (target : LinkState) (s : State) :
    ∃ l o a n, changeLink φ target s = { s with
      assembly := { s.assembly with links := s.assembly.links.set φ l, openSets := o }
      engine := { s.engine with latches := a, lines := n } } := by
  unfold changeLink
  simp only
  by_cases h : (s.assembly.links.get φ).state = target
  · rw [if_pos h]
    exact ⟨s.assembly.links.get φ, s.assembly.openSets, s.engine.latches, s.engine.lines, by simp⟩
  · rw [if_neg h]
    obtain ⟨a, n, e⟩ := raise_shape .linkChange _
    exact ⟨_, _, a, n, e⟩

/-- A missing-run step touches its link, the open sets, latches and lines alone (R9). -/
theorem stepMissingRun_shape (o : OpenSet) (φ : Phase) (s : State) :
    ∃ l x a n, stepMissingRun o φ s = { s with
      assembly := { s.assembly with links := s.assembly.links.set φ l, openSets := x }
      engine := { s.engine with latches := a, lines := n } } := by
  unfold stepMissingRun
  simp only
  split
  · split
    · exact ⟨_, s.assembly.openSets, s.engine.latches, s.engine.lines, rfl⟩
    · split
      · obtain ⟨l, x, a, n, e⟩ := changeLink_shape φ .down
          (setLink φ { s.assembly.links.get φ with missingRun := (s.assembly.links.get φ).missingRun + 1 } s)
        refine ⟨l, x, a, n, e.trans ?_⟩
        cases φ <;> rfl
      · exact ⟨_, s.assembly.openSets, s.engine.latches, s.engine.lines, rfl⟩
  · exact ⟨s.assembly.links.get φ, s.assembly.openSets, s.engine.latches, s.engine.lines, by simp⟩

/-- The quality part of a closing touches qualities, runs, open sets, the wire of sets, latches and lines alone. -/
theorem closeQuality_shape (o : OpenSet) (s : State) :
    ∃ q r x w a n, closeQuality o s = { s with
      assembly := { s.assembly with quality := q, substitutionRun := r, openSets := x }
      wires := { s.wires with sets := w }
      engine := { s.engine with latches := a, lines := n } } := by
  unfold closeQuality
  simp only
  obtain ⟨a, n, e⟩ := raiseIf_shape (phases.any (becomesLost s o)) .phaseLost { s with
    assembly := { s.assembly with
      quality := .of fun φ => (phaseClosing s o φ).quality
      substitutionRun := .of fun φ => (phaseClosing s o φ).run
      openSets := s.assembly.openSets.filter (fun x => x.number != o.number) }
    wires := { s.wires with sets := s.wires.sets ++
      [⟨o.number, .of fun φ => (phaseClosing s o φ).disposition, .of fun φ => (phaseClosing s o φ).quality⟩] } }
  rw [e]
  obtain ⟨a', n', e'⟩ := raiseIf_shape (phases.any (becomesRestored s o)) .phaseRestored _
  exact ⟨_, _, _, _, a', n', e'⟩

/-- A counted closing touches the time base, the wire of notices, the backup clock, latches and lines alone
(R60). -/
theorem countClosing_shape (s : State) :
    ∃ b w c a n, countClosing s = { s with
      timeBase := b, wires := { s.wires with notices := w }, store := { s.store with backup := c }
      engine := { s.engine with latches := a, lines := n } } := by
  unfold countClosing
  split
  · unfold takeBoundary
    obtain ⟨a, n, e⟩ := raiseIf_shape s.timeBase.step.isSome .timeStepped { s with
      timeBase := afterBoundary s.timeBase
      wires := { s.wires with notices := s.wires.notices ++ [noticeOf s.timeBase] }
      store := { s.store with
        backup := ⟨(afterBoundary s.timeBase).start, (afterBoundary s.timeBase).set, true⟩ } }
    exact ⟨_, _, _, a, n, e⟩
  · exact ⟨_, s.wires.notices, s.store.backup, s.engine.latches, s.engine.lines, rfl⟩

/-- Ending TEST touches the pulse unit, latches and lines alone (R140). -/
theorem endTest_shape (c : ExitCause) (s : State) :
    ∃ u a n, endTest c s = { s with pulse := u, engine := { s.engine with latches := a, lines := n } } := by
  unfold endTest
  split
  · obtain ⟨a, n, e⟩ := raise_shape .testModeChange { s with pulse := { s.pulse with
      test := false, pendingCount := 0, timer := 0, lastExit := c } }
    exact ⟨_, a, n, e⟩
  · exact ⟨s.pulse, s.engine.latches, s.engine.lines, rfl⟩

/-! ## Tariff, interval and envelope -/

/-- A freeze touches the freeze list, latches and lines alone (R90). -/
theorem takeFreeze_shape (n : Nat) (c : FreezeCause) (d : Option Nat) (t : Stamp) (s : State) :
    ∃ f a l, takeFreeze n c d t s = { s with
      tariff := { s.tariff with freezes := f }, engine := { s.engine with latches := a, lines := l } } := by
  unfold takeFreeze
  obtain ⟨a, l, e⟩ := raise_shape .freezeTaken { s with tariff := { s.tariff with
    freezes := ((⟨n, t, c, d, s.tariff.registers, s.netting.totals.sumImport,
      s.netting.totals.sumExport⟩ : FreezeRecord) :: s.tariff.freezes).take freezeListLimit } }
  exact ⟨_, a, l, e⟩

/-- The taking of a joined second touches the interval unit, two wires, latches and lines alone (R69, R70). -/
theorem takeJoined_shape (y : Summary) (e : EnvelopeStatus) (d : Dispatch) (s : State) :
    ∃ u r k a l, takeJoined y e d s = { s with
      interval := u, wires := { s.wires with records := r, acknowledgments := k }
      engine := { s.engine with latches := a, lines := l } } := by
  unfold takeJoined
  simp only
  split
  · obtain ⟨a, l, h⟩ := raise_shape .intervalClosed { s with
      interval := openTally (nextTallyStart y) (nextTallyFlags y)
        { s.interval with tally := addSecond s.interval.tally d e }
      wires := { s.wires with
        records := s.wires.records ++ [recordOf (addSecond s.interval.tally d e) y.finish y.step.isSome false]
        acknowledgments := s.wires.acknowledgments ++ [.opened] } }
    exact ⟨_, _, _, a, l, h⟩
  · exact ⟨_, s.wires.records, _, s.engine.latches, s.engine.lines, rfl⟩

/-- The monitor's taking of a summary touches the envelope, the wire of statuses, latches and lines alone (R115). -/
theorem takeEnvelopeSummary_shape (y : Summary) (s : State) :
    ∃ w a l, takeEnvelopeSummary y s = { s with
      envelope := envelopeAfter s.envelope y, wires := { s.wires with statuses := w }
      engine := { s.engine with latches := a, lines := l } } := by
  unfold takeEnvelopeSummary
  simp only
  obtain ⟨a, l, e⟩ := raiseIf_shape (termLapses s.envelope.term) .limitLapsed { s with
    envelope := envelopeAfter s.envelope y
    wires := { s.wires with statuses := s.wires.statuses ++ [statusOf (envelopeAfter s.envelope y) y] } }
  rw [e]
  obtain ⟨a', l', e'⟩ := raiseIf_shape (!s.envelope.line && (envelopeAfter s.envelope y).line) .curtailOn _
  rw [e']
  obtain ⟨a2, l2, e2⟩ := raiseIf_shape (s.envelope.line && !(envelopeAfter s.envelope y).line) .curtailOff _
  exact ⟨_, a2, l2, e2⟩

/-! ## The dispatch step (R39) -/

/-- What an accumulator keeps is smaller than the quantum. -/
theorem stepRemainder_lt {q : Int} (hq : 0 < q) (x s : Int) : |stepRemainder q x s| < q := by
  have h : stepRemainder q x s = (x + s).tmod q := by
    unfold stepRemainder stepQuanta
    have := Int.tmod_add_mul_tdiv (x + s) q
    linarith [mul_comm ((x + s).tdiv q) q]
  rw [h, abs_lt]
  exact ⟨Int.neg_lt_of_neg_lt (by
    have := Int.lt_tmod_of_pos (x + s) hq
    omega), Int.tmod_lt_of_pos _ hq⟩

/-- An accumulator gives up a whole multiple of the quantum. -/
theorem stepRemainder_dvd (q x s : Int) : q ∣ (x + s) - stepRemainder q x s :=
  ⟨stepQuanta q x s, by unfold stepRemainder; ring⟩

/-! ## Counts -/

/-- A Wh count stays below 1,000,000,000 (R47). -/
theorem addWh_lt (a b : Nat) : addWh a b < 1000000000 := Nat.mod_lt _ (by decide)

/-- A Wh count is a count of Wh. -/
@[simp] theorem whCount_addWh (a b : Nat) : whCount (addWh a b) = true := by
  simpa [whCount] using addWh_lt a b

/-! ## The slot store (R98, R100) -/

/-- Records removed and records left are the records there were, in order. -/
theorem evict_append (need : Nat) (rs : List LogRecord) : (evict need rs).1 ++ (evict need rs).2 = rs := by
  induction rs with
  | nil => rfl
  | cons r rs ih =>
    unfold evict
    split
    · rfl
    · simp [ih]

/-- After a removal the needed slots are free, or nothing is left. -/
theorem evict_fits (need : Nat) (rs : List LogRecord) :
    (evict need rs).2 = [] ∨ slotsUsed (evict need rs).2 + need ≤ logSlots := by
  induction rs with
  | nil => exact .inl rfl
  | cons r rs ih =>
    unfold evict
    split
    · exact .inr (by assumption)
    · exact ih

/-- The removal stops as soon as the needed slots are free. -/
theorem evict_minimal (need : Nat) (rs : List LogRecord) (front : List LogRecord) (x : LogRecord)
    (h : (evict need rs).1 = front ++ [x]) : logSlots < slotsUsed (x :: (evict need rs).2) + need := by
  induction rs generalizing front with
  | nil => simp [evict] at h
  | cons r rs ih =>
    unfold evict at h ⊢
    split at h
    · simp at h
    · rename_i hn
      rw [if_neg hn]
      simp only at h ⊢
      cases hf : (evict need rs).1 with
      | nil =>
        have hx : (evict need rs).2 = rs := by simpa [hf] using evict_append need rs
        rw [hf] at h
        have : r = x := by
          cases front with
          | nil => simpa using h
          | cons a l => simp at h
        rw [← this, hx]
        omega
      | cons a l =>
        cases front with
        | nil => rw [hf] at h; simp at h
        | cons b m =>
          simp only [List.cons_append, List.cons.injEq] at h
          exact ih m h.2

/-- The slots of a list of records are those of its parts. -/
theorem slotsUsed_append (xs ys : List LogRecord) : slotsUsed (xs ++ ys) = slotsUsed xs + slotsUsed ys := by
  simp [slotsUsed]

/-- A record takes one or two slots (R98). -/
theorem slotCount_bounds (r : IntervalRecord) : 1 ≤ slotCount r ∧ slotCount r ≤ 2 := by
  unfold slotCount; split <;> omega

/-! ## Settings -/

/-- The second length of Table 4-3 lies between 3,960 and 4,040. -/
theorem secondLength_bounds (r : Int) : 3960 ≤ (secondLength r).1 ∧ (secondLength r).1 ≤ 4040 := by
  unfold secondLength
  split
  · simp
  · split
    · simp
    · simp only; omega

/-- A clamp of a setting lies in its range. -/
theorem clampNat_bounds (low high : Nat) (h : low ≤ high) (w : Word) :
    low ≤ clampNat low high w ∧ clampNat low high w ≤ high := by
  unfold clampNat clampInt
  split
  · omega
  · split <;> omega

/-- A stored limit is at most 100,000 W or UNLIMITED. -/
theorem limitOperand_legal (w : Word) : (limitOperand w).legal := by
  unfold limitOperand
  split
  · trivial
  · exact Nat.min_le_right _ _

/-! ## The envelope's countdown and the cuts of a save -/

/-- A countdown that leaves the term as it stands leaves the effective limit (R118, R121). -/
theorem effectiveLimit_countdown {e : Envelope} (h : e.term.inForce = false ∨ 1 < e.term.validity) :
    effectiveLimit { e with term := countdownTerm e.term } = effectiveLimit e := by
  unfold countdownTerm effectiveLimit termValue
  rcases h with h | h
  · simp [h]
  · cases h2 : e.term.inForce <;> simp_all

/-- The moment of a failure of VDD bears on the mark and on copy X alone (R151, R155). -/
theorem applyCut_shape (c : PowerCut) (s : State) :
    ∃ m x, applyCut c s = { s with store := { s.store with mark := m, copyX := x } } := by
  cases c with
  | plain => exact ⟨_, _, rfl⟩
  | betweenCopies =>
    simp only [applyCut, cutBetweenCopies]
    by_cases h : (saveDue s && s.store.cause == .clearAll) = true
    · rw [if_pos h]; exact ⟨_, _, rfl⟩
    · rw [if_neg h]; exact ⟨_, _, rfl⟩
  | beforeErasure =>
    simp only [applyCut, cutBeforeErasure]
    split <;> exact ⟨_, _, rfl⟩

/-- CONTEXT_GAP events change latches and lines alone (R111). -/
theorem raiseGaps_shape (removed : List LogRecord) (before : PerPort Context) (s : State) :
    ∃ a l, raiseGaps removed before s = { s with engine := { s.engine with latches := a, lines := l } } := by
  have step : ∀ (p : Port) (t : State), (∃ a l, t = { s with engine := { s.engine with latches := a, lines := l } }) →
      ∃ a l, (if contextMoved removed (before.get p) then raiseFor .contextGap p t else t) =
        { s with engine := { s.engine with latches := a, lines := l } } := by
    rintro p t ⟨a, l, rfl⟩
    split
    · obtain ⟨a', l', e⟩ := raiseFor_shape .contextGap p _
      exact ⟨a', l', e⟩
    · exact ⟨a, l, rfl⟩
  exact step _ _ (step _ _ (step _ _ ⟨s.engine.latches, s.engine.lines, rfl⟩))

/-- CONTEXT_GAP events leave the log alone (R111). -/
theorem raiseGaps_log (removed : List LogRecord) (before : PerPort Context) (s : State) :
    (raiseGaps removed before s).log = s.log := by
  obtain ⟨a, l, e⟩ := raiseGaps_shape removed before s
  rw [e]

/-- The commit queue after an intake: the entries that the removal leaves, and the intake (R101). -/
theorem takeRecord_queue (b : IntervalRecord) (s : State) (h : s.log.next < sequenceLimit) :
    (takeRecord b s).log.queue = dropRemoved (evict (slotCount b) s.log.records).1 s.log.queue ++
      [.intake s.log.next
        ⟨(evict (slotCount b) s.log.records).2 ++ [⟨s.log.next, b⟩], s.log.next + 1⟩] := by
  simp only [takeRecord, Nat.not_le.mpr h, if_false, raiseGaps_log, imageOf]

/-! ## Completion of a restore (R153) -/

/-- A finished restore loads the backup clock, keeps kind and cause, sets the outage length, and raises an event. -/
theorem finishRestore_shape (s : State) : ∃ o a l f, finishRestore s = { s with
    store := { s.store with
      backup := ⟨s.timeBase.start, s.timeBase.set, true⟩, lastKind := s.store.notice.kind
      lastCause := s.store.notice.cause, outage := o }
    engine := { s.engine with latches := a, lines := l }, freeCount := f } := by
  unfold finishRestore setOutage
  obtain ⟨a, l, e⟩ := raise_shape .restored _
  rw [e]
  repeat' split
  all_goals exact ⟨_, _, _, _, rfl⟩

/-- A restore completes when no block is waited for and no record is on its way to the log, and does nothing before
(R114, R153). -/
theorem execRestoreComplete_cases (s : State) :
    (s.store.state = .restoring ∧ s.store.waiting = [] ∧ s.wires.records = [] ∧
      execRestoreComplete s = .next (if s.store.supok then enterRunning (finishRestore s)
        else enterSaving .supply (finishRestore s))) ∨
    ((s.store.state ≠ .restoring ∨ s.store.waiting ≠ [] ∨ s.wires.records ≠ []) ∧
      execRestoreComplete s = .next s) := by
  have supok : (finishRestore s).store.supok = s.store.supok := by
    obtain ⟨o, a, l, f, e⟩ := finishRestore_shape s
    rw [e]
  by_cases h : s.store.state = .restoring ∧ s.store.waiting = [] ∧ s.wires.records = []
  · refine .inl ⟨h.1, h.2.1, h.2.2, ?_⟩
    simp only [execRestoreComplete, if_pos h, supok]
  · refine .inr ⟨by tauto, ?_⟩
    simp only [execRestoreComplete, if_neg h]

end Sys2Proof.Machine
end

