-- ==== Sys2Proof/Laws/Requests.lean ====
section
/-! SUPPORT. What an arriving request does, said once: the object that its number names (R174), the stages it passes
(R160), and the state it leaves when the engine takes it at once (R156 to R159). -/

namespace Sys2Proof.Machine

/-- Every object is the one its number names (R174). -/
theorem objectNamed_number (o : Obj) : objectNamed o.number = some o := by
  cases o with
  | right p g => cases p <;> cases g <;> rfl
  | gain φ x => cases φ <;> cases x <;> rfl
  | offset φ x => cases φ <;> cases x <;> rfl
  | accumulatorUpper a => cases a with
    | phase φ => cases φ <;> rfl
    | _ => rfl
  | accumulatorLower a => cases a with
    | phase φ => cases φ <;> rfl
    | _ => rfl
  | activeItem i => cases i with
    | switchCount t => revert t; decide
    | _ => rfl
  | pendingItem i => cases i with
    | switchCount t => revert t; decide
    | _ => rfl
  | importRegister b => revert b; decide
  | exportRegister b => revert b; decide
  | _ => first | rfl | (rename_i x; cases x <;> rfl)

/-- Object numbers fit their field of the request body (Table 11-4). -/
theorem number_lt (o : Obj) : o.number < 65536 := by
  cases o with
  | right p g => cases p <;> cases g <;> decide
  | gain φ x => cases φ <;> cases x <;> decide
  | offset φ x => cases φ <;> cases x <;> decide
  | accumulatorUpper a => cases a with
    | phase φ => cases φ <;> decide
    | _ => decide
  | accumulatorLower a => cases a with
    | phase φ => cases φ <;> decide
    | _ => decide
  | activeItem i => cases i with
    | switchCount t => revert t; decide
    | _ => decide
  | pendingItem i => cases i with
    | switchCount t => revert t; decide
    | _ => decide
  | importRegister b => revert b; decide
  | exportRegister b => revert b; decide
  | _ => first | decide | (rename_i x; cases x <;> decide)

/-- The object field of a request names its object. -/
theorem objectNamed_field (o : Obj) : objectNamed (BitVec.ofNat 16 o.number).toNat = some o := by
  have h := number_lt o
  rw [BitVec.toNat_ofNat, Nat.mod_eq_of_lt (by omega)]
  exact objectNamed_number o

/-- A kind is the one its code names (R175). -/
@[simp] theorem kindNamed_code (k : Kind) : kindNamed (kindCode k) = some k := by cases k <;> rfl

/-- A request of the right form to an object passes stages 1 and 2 (R160). -/
theorem execute_requestTo (p : Port) (f : Sender) (k : Kind) (o : Obj) (ops : List Word) (s : State)
    (h : formOk k (requestTo f k o ops) = true) :
    executeRequest p (requestTo f k o ops) s = executeOn p k o (requestTo f k o ops) s := by
  have hk : kindNamed (requestTo f k o ops).kind = some k := kindNamed_code k
  have ho : objectNamed (requestTo f k o ops).object.toNat = some o := objectNamed_field o
  simp only [executeRequest, hk, h, ho, Bool.not_true, Bool.false_eq_true, if_false]

/-- The state in which a request executes that arrives at a ready part: the engine serves its port. -/
def begun (p : Port) (s : State) : State :=
  { s with engine := { s.engine with
      frontEnds := s.engine.frontEnds.set p .hunt, pointer := p, state := .sending p } }

/-- What the arbiter does when a port is next in the rotation (R159). -/
theorem arbitrate_serves {s : State} {p : Port} {r : Request} {rest : List Request} (hi : s.engine.state = .idle)
    (hr : s.store.state = .running) (hn : nextPort s.engine = some p) (hq : s.engine.queues.get p = r :: rest) :
    arbitrate s = serve p r rest s := by
  simp [arbitrate, hi, hr, hn, hq]

/-- The only port with a request is the next one (R159). -/
theorem nextPort_single (g : Engine) (p : Port) (r : Request) (h : g.queues = (PerPort.all []).set p [r]) :
    nextPort g = some p := by
  obtain ⟨fe, q, es, po, cu, ri, ca, en, la, ens, li, ou, tx⟩ := g
  simp only at h
  subst h
  cases p <;> cases po <;> rfl

/-- A ready part executes an arriving request at once, and forms its answer (R156 to R160). -/
theorem submit_ready {s : State} (h : Ready s) (p : Port) (r : Request) :
    submit p r s =
      formAnswer p (.executed r.tag (executeRequest p r (begun p s)).2) (executeRequest p r (begun p s)).1 := by
  obtain ⟨hr, hi, hq⟩ := h
  unfold submit
  rw [if_pos hr]
  unfold enqueue
  rw [if_pos (by simp [setFrontEnd, hq, queueLimit])]
  have hq' : (setFrontEnd p .hunt s).engine.queues = PerPort.all [] := hq
  refine (arbitrate_serves (p := p) (r := r) (rest := []) ?_ ?_ ?_ ?_).trans ?_
  · exact hi
  · exact hr
  · exact nextPort_single _ p r (by simp [hq'])
  · simp [hq']
  unfold serve
  have hb : ∀ q, beginServing p [] { setFrontEnd p .hunt s with
      engine := { (setFrontEnd p .hunt s).engine with queues := q } } =
      { begun p s with engine := { (begun p s).engine with queues := q.set p [] } } := fun _ => rfl
  have he : { begun p s with engine := { (begun p s).engine with queues := PerPort.all [] } } = begun p s := by
    have hq2 : (begun p s).engine.queues = PerPort.all [] := hq
    rw [← hq2]
  have hz : beginServing p [] { setFrontEnd p .hunt s with
      engine := { (setFrontEnd p .hunt s).engine with
        queues := (setFrontEnd p .hunt s).engine.queues.set p ((setFrontEnd p .hunt s).engine.queues.get p ++ [r]) } } =
      begun p s := by
    rw [hb, PerPort.set_set, hq', PerPort.all_set, he]
  exact congrArg (fun t => formAnswer p (.executed r.tag (executeRequest p r t).2) (executeRequest p r t).1) hz

/-- Adding an answer after an execution leaves the state `served` describes (Safety.lean). -/
theorem formAnswer_begun (f : Sender) (reply : Reply) (t : State)
    (hf : t.engine.frontEnds = t.engine.frontEnds.set f.port .hunt) (hp : t.engine.pointer = f.port)
    (hs : t.engine.state = .sending f.port) :
    formAnswer f.port (.executed f.tag reply) t = served f reply t := by
  obtain ⟨a, b, c, d, e, g, i, j, k, l, m, ⟨fe, q, es, po, cu, ri, ca, en, la, ens, li, ou, tx⟩, w, fc, pe⟩ := t
  simp only at hf hp hs
  simp only [formAnswer, served]
  rw [← hf, ← hp, hp, ← hs]

/-! ## Arrivals at a ready part, kind by kind -/

/-- The state that an outcome leaves when it answers a sender. -/
def answered (f : Sender) (out : Outcome) : State := formAnswer f.port (.executed f.tag out.2) out.1

/-- An arriving request to a named object at a ready part: stages 3 to 6 (R160). -/
theorem arrival_ready {s : State} (h : Ready s) (f : Sender) (k : Kind) (o : Obj) (ops : List Word)
    (hform : formOk k (requestTo f k o ops) = true) :
    arrival f (requestTo f k o ops) s =
      .next (answered f (executeOn f.port k o (requestTo f k o ops) (begun f.port s))) := by
  unfold arrival answered
  rw [submit_ready h, execute_requestTo _ _ _ _ _ _ hform]
  rfl

/-- The rights of a port do not depend on whether the engine serves it. -/
@[simp] theorem begun_right (s : State) (p q : Port) (g : Group) :
    effectiveRight (begun p s).engine q g = effectiveRight s.engine q g := rfl

/-- A WRITE of an object that the port may write reaches the owner's rule (R160, R162). -/
theorem arrival_write {s : State} (h : Ready s) {f : Sender} {o : Obj} (v : Word)
    (ha : o.access = .readWrite ∨ o.access = .setValue) (hw : MayWrite s f.port o) :
    arrival f (requestTo f .write o [v]) s = .next (answered f (writeObject f.port o v (begun f.port s))) := by
  rw [arrival_ready h f .write o [v] rfl]
  have hw' : effectiveRight s.engine f.port o.group = .write := hw
  rcases ha with ha | ha <;>
    simp [executeOn, fits, ha, writes, allowed, hw', ownerActs, requestTo, rawRequest]

/-- An EXCHANGE of an object that the port may write reaches the owner's rule (R160, R162). -/
theorem arrival_exchange {s : State} (h : Ready s) {f : Sender} {o : Obj} (e v : Word)
    (ha : o.access = .readWrite ∨ o.access = .setValue) (hw : MayWrite s f.port o) :
    arrival f (requestTo f .exchange o [e, v]) s =
      .next (answered f (exchangeObject f.port o e v (begun f.port s))) := by
  rw [arrival_ready h f .exchange o [e, v] rfl]
  have hw' : effectiveRight s.engine f.port o.group = .write := hw
  rcases ha with ha | ha <;>
    simp [executeOn, fits, ha, writes, allowed, hw', ownerActs, requestTo, rawRequest]

/-- A write form that puts a value reaches the owner's rule for a WRITE of it (R160, R162). -/
theorem arrival_put {s : State} (h : Ready s) {f : Sender} {o : Obj} {w : WriteForm} {old v : Word}
    (ha : o.access = .readWrite) (hw : MayWrite s f.port o) (hc : o ≠ .claim)
    (hr : readObject (begun f.port s) f.port o = .value old) (hp : Puts w old v) :
    arrival f (requestOfForm f o w) s = .next (answered f (writeObject f.port o v (begun f.port s))) := by
  rcases hp with rfl | rfl
  · exact arrival_write h v (.inl ha) hw
  · refine (arrival_exchange h old v (.inl ha) hw).trans ?_
    have hl : o ≠ .latch := by rintro rfl; exact absurd ha (by decide)
    have hx : exchangeObject f.port o old v (begun f.port s) = writeObject f.port o v (begun f.port s) := by
      have hq : presentValue (begun f.port s) f.port o = (begun f.port s, .ok old) := by simp [presentValue, hr]
      unfold exchangeObject
      split
      · exact absurd rfl hc
      · exact absurd rfl hl
      · simp [hq]
    rw [hx]

/-- A COMMAND that the port may give reaches the owner's rule (R160, R165). -/
theorem arrival_command {s : State} (h : Ready s) {f : Sender} {o : Obj} (ops : List Word)
    (ha : o.access = .command) (hn : ops.length = o.operandCount) (hc : o.isContextCommand = false)
    (hw : MayWrite s f.port o) :
    arrival f (requestTo f .command o ops) s =
      .next (answered f (commandObject f.port o (ops.getD 0 0) (ops.getD 1 0) (begun f.port s))) := by
  rw [arrival_ready h f .command o ops rfl]
  have hw' : effectiveRight s.engine f.port o.group = .write := hw
  simp [executeOn, fits, ha, hn, hc, writes, allowed, hw', ownerActs, requestTo, rawRequest]

/-- A log context command from a port that may read LOG reaches the owner's rule (R105, R160). -/
theorem arrival_context {s : State} (h : Ready s) {f : Sender} {o : Obj} (ops : List Word)
    (ha : o.access = .command) (hn : ops.length = o.operandCount) (hc : o.isContextCommand = true)
    (hw : MayRead s f.port o) :
    arrival f (requestTo f .command o ops) s =
      .next (answered f (commandObject f.port o (ops.getD 0 0) (ops.getD 1 0) (begun f.port s))) := by
  rw [arrival_ready h f .command o ops rfl]
  have hw' : effectiveRight s.engine f.port o.group = .read ∨ effectiveRight s.engine f.port o.group = .write := hw
  rcases hw' with hw' | hw' <;>
    simp [executeOn, fits, ha, hn, hc, writes, allowed, hw', ownerActs, requestTo, rawRequest]

/-- A SELECT from a port that may read the group reaches the cursor's rule (R160, R164). -/
theorem arrival_select {s : State} (h : Ready s) {f : Sender} {o : Obj} (t i : Word) (ha : o.access = .cursor)
    (hw : MayRead s f.port o) :
    arrival f (requestTo f .select o [t, i]) s = .next (answered f (selectObject f.port o t i (begun f.port s))) := by
  rw [arrival_ready h f .select o [t, i] rfl]
  have hw' : effectiveRight s.engine f.port o.group = .read ∨ effectiveRight s.engine f.port o.group = .write := hw
  rcases hw' with hw' | hw' <;>
    simp [executeOn, fits, ha, writes, allowed, hw', ownerActs, requestTo, rawRequest]

/-- A write of an object on which the port has no WRITE is refused with DENIED (R160, stage 5). -/
theorem arrival_denied {s : State} (h : Ready s) {f : Sender} {o : Obj} (k : Kind) (ops : List Word)
    (hform : formOk k (requestTo f k o ops) = true) (hfit : fits k o (requestTo f k o ops) = true)
    (hr : allowed s.engine f.port k o = false) :
    arrival f (requestTo f k o ops) s = .next (answered f (refuse .denied (begun f.port s))) := by
  rw [arrival_ready h f k o ops hform]
  have hr' : allowed (begun f.port s).engine f.port k o = false := hr
  simp [executeOn, hfit, hr']

/-- A port that may write an object may read it. -/
theorem MayWrite.read {s : State} {p : Port} {o : Obj} (h : MayWrite s p o) : MayRead s p o := Or.inr h

/-- A request command is the arrival of one request with its sender's tag (R156, notes/assumptions/2.md). -/
theorem exec_request {c : Instr} {f : Sender} (hf : requestSender c = some f) :
    ∃ r : Request, r.tag = f.tag ∧ ∀ s, exec c s = arrival f r s := by
  cases c <;> simp only [requestSender, Option.some.injEq, reduceCtorEq] at hf <;> subst hf <;>
    refine ⟨_, ?_, fun s => rfl⟩
  all_goals first | rfl | (rename_i w; cases w <;> rfl)

/-- The cursor that a packed table and copy code names at the FREEZE cursor: the copy code is not used (R164, R175). -/
theorem freezeCursor_named {t k : Nat} (ht : t < 256) (hk : k < 16777216) (i : Word) :
    cursorNamed .freezeCursor (natWord (t + 256 * k)) i =
      if t = 7 ∧ i.toNat < 12 then some (.freeze i.toNat) else none := by
  have hw : (natWord (t + 256 * k)).toNat = t + 256 * k := by simp [natWord]; omega
  have hm : (t + 256 * k) % 256 = t := by omega
  simp only [cursorNamed, freezeCursorNamed, hw, hm]
  by_cases h : t = 7 <;> simp [h, indexBelow]

/-- A table or copy code that names none sets no SCHEDULE cursor (R164, R175). -/
theorem scheduleCursor_unnamed {t k : Nat} (ht : t < 256) (hk : k < 16777216) (i : Word)
    (h : t = 0 ∨ 7 ≤ t ∨ 2 ≤ k) : cursorNamed .scheduleCursor (natWord (t + 256 * k)) i = none := by
  have hw : (natWord (t + 256 * k)).toNat = t + 256 * k := by simp [natWord]; omega
  have hm : (t + 256 * k) % 256 = t := by omega
  have hd : (t + 256 * k) / 256 = k := by omega
  simp only [cursorNamed, scheduleCursorNamed, hw, hm, hd, copyNamed]
  split
  · rfl
  · rename_i hc
    split <;> first | rfl | (split at hc <;> first | omega | (split at hc <;> first | omega | simp at hc))

end Sys2Proof.Machine
end

