-- ==== Sys2Proof/WellFormed.lean ====
section
/-! DEFINITION. Well-formed commands: the events that can happen on the lines of the part.  `exec` is total on
ill-formed commands too, and treats them as no event. -/

namespace Sys2Proof

/-- A command that can arise: a completed request frame has a body length that a request frame can have, a
rejected length is one that none can have (R156), and a frame on a link has at least one byte (R176). -/
def Instr.wellFormed : Instr → Bool
  | .requestFrame _ body _ => decide (body.length ∈ Machine.bodyLengths)
  | .frameLengthReject _ length => decide (length.toNat ∉ Machine.bodyLengths)
  | .upstreamFrame _ bytes => !bytes.isEmpty
  | _ => true

end Sys2Proof
end

