-- ==== Sys2Proof/Tests/Slice0.lean ====
section
/-! SUPPORT. Tests: ill-formed commands that WellFormed refuses, cases worked out in the spec's own tables (each names
its table), and for every statement of Obligations.lean one witness that its hypotheses can be met. -/

namespace Sys2Proof.Tests

open Sys2Proof Sys2Proof.Machine

/-! ## Well-formed commands -/

theorem test_illformed_request_length : Instr.wellFormed (.requestFrame .utility [1#8, 2#8, 3#8] 0#16) = false := by
  decide
theorem test_illformed_rejected_length : Instr.wellFormed (.frameLengthReject .service 8#8) = false := by decide
theorem test_illformed_upstream_frame : Instr.wellFormed (.upstreamFrame .p1 []) = false := by decide
theorem test_wellformed_commands :
    Instr.wellFormed (.requestFrame .utility [1#8, 7#8, 10#8, 0#8] 18#16) = true ∧
      Instr.wellFormed (.frameLengthReject .service 6#8) = true ∧ Instr.wellFormed .strobeIssue = true := by decide

/-! ## Helpers -/

/-- The state after a command. -/
def after (c : Instr) (s : State) : State :=
  match exec c s with
  | .next t => t
  | .fault _ => s
  | .refused _ => s

/-- The answer a port formed last. -/
def lastAnswer (p : Port) (s : State) : Option Answer := (s.engine.outbox.get p).getLast?

/-- A sender at the utility port. -/
def utility : Sender := ⟨.utility, 1#8⟩

/-- A sender at the premises port. -/
def premises : Sender := ⟨.premises, 2#8⟩

/-- A sender at the service port. -/
def service : Sender := ⟨.service, 3#8⟩

/-- The part after reset with the calibration enable closed. -/
def closed : State := { State.reset with engine := { State.reset.engine with calen := true, enable := true } }

/-- The part after reset, in TEST, with the calibration enable closed. -/
def testing : State := { closed with pulse := { closed.pulse with test := true, timer := 7200000 } }

/-- The part after reset in another store state. -/
def inState (x : StoreState) : State := { State.reset with store := { State.reset.store with state := x } }

/-- A link that receives a locked head of class 2. -/
def lockedLink : Link := { Link.cold with state := .locked, serial := 9#32, reportedClass := 2 }

/-- A sample. -/
def someSample : Sample := ⟨10000, -2500, false⟩

/-- All links locked and all phases GOOD, with strobe n about to be issued and the two sets before it open. -/
def sensing (n : Byte) (older newer : PerPhase Slot) : State :=
  { State.reset with assembly := { State.reset.assembly with
      links := .all lockedLink, quality := .all .good, strobe := n
      openSets := [⟨n - 2#8, older⟩, ⟨n - 1#8, newer⟩] } }

/-- A full set of slots. -/
def full : PerPhase Slot := .all (.filled someSample)

/-- A set of empty slots. -/
def bare : PerPhase Slot := .all .empty

/-- A second summary with given sums, ending at second 900 of day 5, its mark SET. -/
def summary (s1 s2 s3 : Int) : Summary :=
  { start := ⟨5, 899, true⟩, finish := ⟨5, 900, true⟩, step := none, sets := 4000, sum := ⟨s1, s2, s3⟩
    energy := ⟨s1, s2, s3⟩, sumEnergy := s1 + s2 + s3, clipped := .all 0, substituted := .all 0, lost := .all 0
    quality := .all .good }

/-- A dispatch of the second of `summary`. -/
def someDispatch : Dispatch :=
  { start := ⟨5, 899, true⟩, finish := ⟨5, 900, true⟩, billImport := 1, billExport := 2, basis := .phase
    quanta := ⟨-1, 1, 0⟩, sumQuanta := 0, clipped := .all 0, substituted := .all 0, lost := .all 0, test := false }

/-- The envelope status of the second of `summary`. -/
def someStatus : EnvelopeStatus := ⟨⟨5, 899, true⟩, ⟨5, 900, true⟩, 1000, false, false⟩

/-- An interval record without a quality part. -/
def someRecord : IntervalRecord :=
  recordOf (.opened ⟨5, 0, true⟩ 15 .none) ⟨5, 900, true⟩ false false

/-- An interval record with a quality part. -/
def qualityRecord : IntervalRecord := { someRecord with substituted := ⟨3, 0, 0⟩ }

/-! ## Codes and frames (Tables 11-3 to 11-7) -/

theorem test_strobe_frame : strobeFrame 5#8 = [1#8, 5#8, 250#8] := by decide
theorem test_control_frames :
    identifyFrame = [2#8, 1#8, 253#8] ∧ restartFrame = [2#8, 2#8, 252#8] := by decide
theorem test_sample_frame_negative :
    upstreamOf [3#8, 7#8, 0x27#8, 0x10#8, 0xF6#8, 0x3C#8, 3#8, 0x8A#8] = some (.sample 7#8 ⟨10000, -2500, true⟩) := by
  decide
theorem test_identity_frame :
    upstreamOf [4#8, 0#8, 0#8, 1#8, 2#8, 3#8, 246#8] = some (.identity 258#32 3) := by decide
theorem test_identity_class_five : upstreamOf [4#8, 0#8, 0#8, 1#8, 2#8, 5#8, 244#8] = none := by decide
theorem test_upstream_check_wrong : upstreamOf [4#8, 0#8, 0#8, 1#8, 2#8, 3#8, 245#8] = none := by decide
/-- The frame check of a READ of one object from the utility port (R175): 5 + 1 + 1 + 12 + 0 + 1. -/
theorem test_request_frame_check :
    portFrame [1#8, 1#8, 12#8, 0#8, 1#8] = [165#8, 5#8, 1#8, 1#8, 12#8, 0#8, 1#8, 0#8, 20#8] := by decide
theorem test_request_body :
    requestOf [9#8, 4#8, 8#8, 0x80#8, 0#8, 1#8, 0#8, 2#8, 255#8, 255#8, 255#8, 255#8] =
      ⟨9#8, 4#8, 0x0880#16, none, [65538#32, 4294967295#32]⟩ := by decide
/-- The body lengths that R175 gives: 55 and 91 bytes for an interval record, 74 for a freeze record. -/
theorem test_answer_body_lengths :
    (answerBody (.executed 1#8 ⟨.done, .interval 0 ⟨7, someRecord⟩⟩)).length = 55 ∧
      (answerBody (.executed 1#8 ⟨.done, .interval 0 ⟨7, qualityRecord⟩⟩)).length = 91 ∧
      (answerBody (.executed 1#8 ⟨.done, .freeze ⟨1, ⟨5, 9, true⟩, .command, none, .zero, 0, 0⟩⟩)).length = 74 := by
  decide
theorem test_full_answer : answerFrame (.full 7#8) = [165#8, 3#8, 7#8, 4#8, 0#8, 0#8, 14#8] := by decide
theorem test_event_positions :
    eventSet .intervalClosed = 1#15 ∧ eventSet .curtailOn = 512#15 ∧ eventSet .calSwitch = 16384#15 := by decide
theorem test_time_with_set_mark : stampSecondWord ⟨5, 900, true⟩ = 2147484548#32 := by decide

/-! ## Sensing (Tables 1-6 and 4-3) -/

/-- Table 1-6, step 3: a second frame for a filled slot counts late. -/
theorem test_duplicate_sample_is_late :
    ((after (.upstreamFrame .p2 [3#8, 253#8, 0#8, 0#8, 0#8, 0#8, 0#8, 0#8]) (sensing 255#8 full full)).assembly.links.get
      .p2).lateFrames = 1 := by decide
/-- Table 1-6, step 5: strobe 0 closes set 254 without a sample of phase 2. -/
theorem test_missed_frame_substitutes :
    let t := after .strobeIssue (sensing 0#8 (full.set .p2 .empty) bare)
    t.assembly.quality.p2 = .substituting ∧ t.assembly.substitutionRun.p2 = 1 ∧
      (t.assembly.links.get .p2).missingRun = 1 ∧ t.assembly.openSets.map OpenSet.number = [255#8, 0#8] := by decide
/-- Table 1-6, step 9: the sample of set 255 makes the phase GOOD again. -/
theorem test_sample_restores_quality :
    let s := sensing 1#8 full full
    let t := after .strobeIssue { s with assembly := { s.assembly with
      quality := s.assembly.quality.set .p2 .substituting, substitutionRun := ⟨0, 1, 0⟩ } }
    t.assembly.quality.p2 = .good ∧ t.assembly.substitutionRun.p2 = 0 := by decide
theorem test_missing_run_takes_link_down :
    let s := sensing 2#8 bare bare
    let l : Link := { lockedLink with missingRun := 31 }
    let t := after (.missingRunExpiry .p3) { s with assembly := { s.assembly with links := s.assembly.links.set .p3 l } }
    (t.assembly.links.get .p3).state = .down ∧ (t.assembly.links.get .p3).countdown = 3999 ∧
      t.assembly.sent.p3 = [[1#8, 2#8, 253#8], [2#8, 1#8, 253#8]] := by decide
theorem test_identity_of_another_class :
    let t := after (.upstreamFrame .p1 [4#8, 0#8, 0#8, 1#8, 2#8, 3#8, 246#8]) (sensing 2#8 full full)
    (t.assembly.links.get .p1).state = .mismatch ∧ t.assembly.openSets.map (fun o => o.slots.p1) = [.empty, .empty] ∧
      t.assembly.openSets.map (fun o => o.slots.p2) = [.filled someSample, .filled someSample] := by decide
/-- Table 4-3. -/
theorem test_second_lengths :
    secondLength 40 = (3960, 0) ∧ secondLength 39 = (3961, 0) ∧ secondLength 0 = (4000, 0) ∧
      secondLength (-39) = (4039, 0) ∧ secondLength (-40) = (4040, 0) ∧ secondLength 120000 = (3960, 119960) := by
  decide
/-- Table 4-2. -/
theorem test_dates :
    dateOf 59 = ⟨2000, 2, 29⟩ ∧ (weekdayOf 59).val = 1 ∧ (weekdayOf 36525).val = 4 ∧ (weekdayOf 36584).val = 0 ∧
      (weekdayOf 65535).val = 6 := by decide
theorem test_dates_far : dateOf 36584 = ⟨2100, 3, 1⟩ ∧ dateOf 65535 = ⟨2179, 6, 6⟩ := by
  constructor <;> rfl

/-! ## Metrology and netting (Tables 2-7, 2-8, 3-7 and 3-9) -/

/-- Table 2-7. -/
theorem test_calibrated_sample :
    calibratedCode 10000 12 33000 = 10059 ∧ calibratedCode (-2500) (-6) 32100 = -2443 ∧
      powerCode ⟨33000, 32100, 12, -6⟩ someSample = -24574137 ∧
      clippedSample ⟨33000, 32100, 12, -6⟩ someSample = false ∧
      calibratedCode 32000 (-2047) 34000 = 32767 ∧ clampChanges 32000 (-2047) 34000 = true := by decide
/-- Table 2-8: the creep decision, the means and the live powers. -/
theorem test_second_of_table_2_8 :
    let r : Running := { Running.empty with sum := ⟨-194641920000, 77824000000, 324396000⟩, sets := 3960 }
    let v := liveOf 50 ⟨3960, .zero, .zero, none⟩ r
    meanCodes r = ⟨-49152000, 19652525, 81918⟩ ∧ v.creep = ⟨false, false, true⟩ ∧ v.power = ⟨-3000, 1199, 5⟩ ∧
      v.sumPower = -1796 ∧ (summaryOf 50 ⟨3960, .zero, .zero, none⟩ r).sumEnergy = -116817920000 := by decide
/-- Table 3-7: the dispatch step of an unbalanced connection. -/
theorem test_dispatch_step :
    let s := State.reset
    let y := summary (-196608000000) 78643200000 52428800000
    let t := after .nettingSummaryArrival { s with
      netting := { s.netting with
        basis := .phase, accumulators := ⟨⟨-100000000000, 200000000000, 0⟩, 100000000000⟩ }
      wires := { s.wires with toNetting := [y] } }
    t.netting.accumulators = ⟨⟨-60678400000, 42713600000, 52428800000⟩, 34464000000⟩ ∧
      t.netting.last.quanta = ⟨-1, 1, 0⟩ ∧ t.netting.last.billImport = 1 ∧ t.netting.last.billExport = 1 ∧
      t.netting.totals = ⟨⟨0, 1, 0⟩, ⟨1, 0, 0⟩, 0, 0⟩ := by decide
/-- Table 3-9: the test accumulator under D = 100. -/
theorem test_test_accumulator :
    let s := testing
    let t := after .nettingSummaryArrival { s with
      netting := { s.netting with testAccumulator := -1835008000 }
      wires := { s.wires with toNetting := [summary (-196608000000) 78643200000 52428800000] } }
    t.netting.testAccumulator = -1310720000 ∧ t.wires.handOffs = [⟨0, 28, true, 100⟩] := by decide

/-! ## Tariff and log (Tables 5-3 and 6-5) -/

/-- The switch list of Table 5-3's day. -/
theorem test_bands :
    let ws : List Switch := [⟨480, 2⟩, ⟨1200, 5⟩]
    bandAt ws 180 = 5 ∧ bandAt ws 479 = 5 ∧ bandAt ws 480 = 2 ∧ bandAt ws 1199 = 2 ∧ bandAt ws 1200 = 5 ∧
      bandAt [] 0 = 1 := by decide
/-- Table 6-5, step 7 in small: a record of two slots removes the two oldest, and the context moves. -/
theorem test_removal_moves_context :
    let rs : List LogRecord := [⟨7302, someRecord⟩, ⟨7303, someRecord⟩]
    moveContext rs 7304 ⟨true, 7302, 0⟩ = ⟨true, 7304, 2⟩ ∧ moveContext rs 7304 ⟨true, 8882, 0⟩ = ⟨true, 8882, 0⟩ := by
  decide
/-- Table 6-5, steps 9 and 12: LOG START AT below the held range and beyond it. -/
theorem test_log_start_at :
    let l : Log := { Log.cold with records := [⟨7304, someRecord⟩, ⟨7305, qualityRecord⟩], next := 7306 }
    startAt l 7300 = some ⟨true, 7304, 4⟩ ∧ startAt l 7306 = some ⟨true, 7306, 0⟩ ∧ startAt l 7307 = none ∧
      startAt l 0 = none ∧ slotsUsed l.records = 3 := by decide

/-! ## Envelope and pulses (Tables 7-4 and 8-4) -/

/-- Table 7-4, seconds 2, 4 and 7. -/
theorem test_excursion_and_trip :
    evaluateNormal 3 200 4 3000 3100 .clear = ⟨.overLimit, .none, 1, 0⟩ ∧
      evaluateNormal 3 200 4 3000 2950 ⟨.overLimit, .none, 2, 0⟩ = .clear ∧
      evaluateNormal 3 200 4 3000 3400 ⟨.overLimit, .none, 2, 0⟩ = ⟨.curtailing, .limit, 0, 0⟩ := by decide
/-- Table 7-4, seconds 8, 9, 11 and 15. -/
theorem test_recovery_and_release :
    evaluateNormal 3 200 4 3000 2900 ⟨.curtailing, .limit, 0, 0⟩ = ⟨.curtailing, .limit, 0, 0⟩ ∧
      evaluateNormal 3 200 4 3000 2700 ⟨.curtailing, .limit, 0, 0⟩ = ⟨.holding, .limit, 0, 1⟩ ∧
      evaluateNormal 3 200 4 3000 2850 ⟨.holding, .limit, 0, 2⟩ = ⟨.curtailing, .limit, 0, 0⟩ ∧
      evaluateNormal 3 200 4 3000 2300 ⟨.holding, .limit, 0, 3⟩ = .clear := by decide
/-- Table 8-4, step 2: 27 test export quanta start the generator. -/
theorem test_hand_off_starts_generator :
    let t := after .pulseHandOff { testing with wires := { testing.wires with handOffs := [⟨0, 27, true, 100⟩] } }
    t.pulse.pendingCount = 26 ∧ t.pulse.generator = .active ∧ t.pulse.testExport = 27 := by decide
/-- Table 8-4, step 7: TEST OFF clears the count and lets the pulse run. -/
theorem test_test_off_keeps_counters :
    let t := after (.testOff service) { testing with pulse := { testing.pulse with
      pendingCount := 18, generator := .active, testExport := 55 } }
    t.pulse.test = false ∧ t.pulse.pendingCount = 0 ∧ t.pulse.generator = .active ∧ t.pulse.testExport = 55 ∧
      t.pulse.lastExit = .command := by decide

/-! ## Requests -/

theorem test_denied_without_right :
    lastAnswer .premises (after (.timeSet premises 5#32 9#32) .reset) = some (.executed 2#8 ⟨.denied, .values []⟩) := by
  decide
theorem test_grace_is_clamped :
    lastAnswer .utility (after (.graceWrite utility (.write 4294967295#32)) .reset) =
      some (.executed 1#8 ⟨.done, .values [1#32]⟩) := by decide
theorem test_part_code :
    lastAnswer .utility (after (.check utility 0#16 3046#32 4294967295#32) .reset) =
      some (.executed 1#8 ⟨.matched, .values [3046#32]⟩) := by decide
theorem test_no_object :
    lastAnswer .utility (after (.registerWrite utility 0x0009#16 (.write 1#32)) .reset) =
      some (.executed 1#8 ⟨.noObject, .values []⟩) := by decide
theorem test_arm_reports_fault :
    let s := State.reset
    let p : Schedule := { Schedule.cold with special := [⟨10, 1⟩, ⟨10, 2⟩] }
    lastAnswer .utility (after (.arm utility 20#32 0#32) { s with tariff := { s.tariff with
      claim := some .utility, pending := p, pendingState := .editing } }) =
      some (.executed 1#8 ⟨.range, .values [2#32, 1#32]⟩) := by decide

/-! ## States of the witnesses -/

/-- The premises port with WRITE on every group, holding the claim. -/
def granted : State :=
  { State.reset with
    engine := { State.reset.engine with
      rights := { RightsMap.cold with premises := .replicate 16 .write } }
    tariff := { State.reset.tariff with claim := some .premises, pendingState := .editing } }

/-- A mismatched link on phase 1, a link with a RESTART pending on phase 2, and a disabled one on phase 3. -/
def mismatched : State :=
  { State.reset with assembly := { State.reset.assembly with
      links := ⟨{ Link.cold with state := .mismatch, reportedClass := 3, countdown := 7 },
        { Link.cold with control := .restart }, { Link.cold with state := .disabled }⟩ } }

/-- One phase in use, with a full set to close. -/
def onePhase : State :=
  { State.reset with assembly := { State.reset.assembly with
      phases := .one, strobe := 2#8, openSets := [⟨0#8, full⟩] } }

/-- A log whose commit is in flight. -/
def committing : State :=
  { closed with log := { closed.log with queue := [.intake 1 ⟨[], 2⟩] } }

/-- A log whose clear is being committed. -/
def clearing : State :=
  { State.reset with log := { State.reset.log with queue := [.clear ⟨[], 1⟩] } }

/-- A SET clock two seconds before the end of the last day. -/
def lastDay : State :=
  { State.reset with timeBase := { State.reset.timeBase with start := ⟨65535, 86398⟩, set := true } }

/-- A SET clock with a step to day 0 pending. -/
def stepping : State := { lastDay with timeBase := { lastDay.timeBase with step := some ⟨0, 0⟩ } }

/-- A port that holds the claim on a pending record with one special day. -/
def claimed (p : Port) : State :=
  { State.reset with tariff := { State.reset.tariff with
      claim := some p, pendingState := .editing, pending := { Schedule.cold with special := [⟨10, 1⟩] } } }

/-- The utility port holding the claim, with a table cursor. -/
def pointing (c : Cursor) : State :=
  { claimed .utility with engine := { State.reset.engine with cursors := (PerPort.all .unset).set .utility c } }

/-- The utility port holding the claim on a record with a bad week entry. -/
def badWeek : State :=
  { State.reset with tariff := { State.reset.tariff with
      claim := some .utility, pendingState := .editing
      pending := { Schedule.cold with week := #v[4, 0, 0, 0, 0, 0, 0] } } }

/-- An ARMED schedule. -/
def armed : State :=
  { State.reset with tariff := { State.reset.tariff with pendingState := .armed, activation := some ⟨9, 0⟩ } }

/-- A command freeze pending under the highest number, and a dispatch on its way. -/
def frozen : State :=
  { State.reset with
    tariff := { State.reset.tariff with pendingFreeze := some 4294967295, nextFreeze := 1 }
    wires := { State.reset.wires with toTariff := [someDispatch] } }

/-- A log of two records, with the premises port at the newest and the utility port past it. -/
def logged : State :=
  { State.reset with log := { State.reset.log with
      records := [⟨7304, someRecord⟩, ⟨7305, qualityRecord⟩], next := 7306
      contexts := ⟨⟨true, 7306, 0⟩, ⟨true, 7305, 2⟩, .idle⟩ } }

/-- A set to close without samples: a link at missing run 31, and phases of three qualities. -/
def worn : State :=
  let s := sensing 2#8 bare bare
  { s with assembly := { s.assembly with
      links := s.assembly.links.set .p1 { lockedLink with missingRun := 31 }
      quality := ⟨.good, .substituting, .lost⟩, substitutionRun := ⟨0, 3999, 0⟩ } }

/-- The last set closing of the last second of all days, with a slew remainder and a step. -/
def ending (slew : Int) (x : Option Instant) : State :=
  let s := sensing 2#8 full full
  { s with timeBase := ⟨⟨65535, 86399⟩, true, 4000, 3999, slew, x⟩ }

/-- A closed set of three dispositions. -/
def someClosedSet : ClosedSet := ⟨0#8, ⟨.sample someSample, .substituted, .lost⟩, ⟨.good, .substituting, .lost⟩⟩

/-- A running second of some sets, with a closed set on its way. -/
def measured (n : Nat) : State :=
  { State.reset with
    metrology := { State.reset.metrology with running := { Running.empty with sets := n } }
    wires := { State.reset.wires with sets := [someClosedSet] } }

/-- A running second of some sets, with a notice for a number of sets on its way too. -/
def noticed (n k : Nat) : State :=
  { measured n with wires := { (measured n).wires with notices := [⟨k, .zero, .zero, none⟩] } }

/-- A summary on its way to the netting unit. -/
def netting (awaiting : Bool) : State :=
  { State.reset with
    netting := { State.reset.netting with awaiting := awaiting }
    wires := { State.reset.wires with toNetting := [summary 1 2 3] } }

/-- An acknowledgment on its way to the netting unit. -/
def acknowledged (awaiting : Bool) (held : List Summary) : State :=
  { State.reset with
    netting := { State.reset.netting with awaiting := awaiting, held := held, pendingBasis := some .phase }
    wires := { State.reset.wires with acknowledgments := [.opened] } }

/-- A dispatch on its way to a tariff unit with a special day and a switch list. -/
def tariffed : State :=
  { State.reset with
    tariff := { State.reset.tariff with
      active := { Schedule.cold with special := [⟨5, 2⟩], switches := #v[[], [], [⟨0, 6⟩], []] } }
    wires := { State.reset.wires with toTariff := [someDispatch] } }

/-- A dispatch on its way to a tariff unit with a scheduled freeze day. -/
def freezing (reference : Option Nat) : State :=
  { State.reset with
    tariff := { State.reset.tariff with freezeDay := 6, freezeReference := reference }
    wires := { State.reset.wires with toTariff := [someDispatch] } }

/-- A dispatch on its way to a tariff unit with an ARMED schedule. -/
def arming (minute : Nat) : State :=
  { State.reset with
    tariff := { State.reset.tariff with pendingState := .armed, activation := some ⟨5, minute⟩ }
    wires := { State.reset.wires with toTariff := [someDispatch] } }

/-- An interval unit that lacks one of the three parts of a second, or all of them. -/
def joining (part : Nat) : State :=
  { State.reset with
    interval := { State.reset.interval with
      summaries := if part = 1 ∨ part = 2 then [summary 1 2 3] else []
      statuses := if part = 0 ∨ part = 2 then [someStatus] else []
      dispatch := if part = 0 ∨ part = 1 then some someDispatch else none }
    wires := { State.reset.wires with
      toInterval := [summary 1 2 3], statuses := [someStatus], dispatches := [someDispatch] } }

/-- A monitor in a state with a count, under a fallback limit of 3,000 W and a summary that exports 3,500 W. -/
def monitored (x : MonitorState) (n : Nat) : State :=
  { State.reset with
    envelope := { State.reset.envelope with
      fallback := .watts 3000, grace := 3, monitor := ⟨x, .limit, n, n⟩ }
    wires := { State.reset.wires with toEnvelope := [summary (-229376000000) 0 0] } }

/-- A term in its last second, and a summary on its way. -/
def lapsing : State :=
  { State.reset with
    envelope := { State.reset.envelope with term := ⟨true, .watts 3000, 1⟩ }
    wires := { State.reset.wires with toEnvelope := [summary 0 0 0] } }

/-- A monitor one second before its release, and a summary without export. -/
def releasing : State :=
  { monitored .holding 29 with
    envelope := { (monitored .holding 29).envelope with line := true }
    wires := { State.reset.wires with toEnvelope := [summary 0 0 0] } }

/-- A hand-off on its way to a generator in a state, with a pending count. -/
def handed (h : HandOff) (x : Generator) (n : Nat) : State :=
  { State.reset with
    pulse := { State.reset.pulse with generator := x, pendingCount := n }
    wires := { State.reset.wires with handOffs := [h] } }

/-- A record on its way to the log. -/
def intaking : State :=
  { logged with wires := { State.reset.wires with records := [qualityRecord] } }

/-- A record on its way to a log whose numbers are spent. -/
def spent : State := { intaking with log := { intaking.log with next := 4294967296 } }

/-- Checkpoint contents. -/
def someContents : CheckpointContents := ⟨.zero, 1, none, .zero, 1⟩

/-- A write of copy X. -/
def someWrite : CheckpointWrite := ⟨.x, ⟨someContents, 5⟩⟩

/-- A write of copy Y. -/
def otherWrite : CheckpointWrite := ⟨.y, ⟨someContents, 5⟩⟩

/-- A checkpoint notice on its way to a store. -/
def checkpointed (last : Option CopyName) (w : Option CheckpointWrite) (waiting : Option CheckpointContents) : State :=
  { State.reset with
    store := { State.reset.store with lastCopy := last, copyWrite := w, pendingCopy := waiting }
    wires := { State.reset.wires with checkpointNotices := 1 } }

/-- A save whose image is being written. -/
def saving : State :=
  { State.reset with store := { State.reset.store with state := .saving, write := .image (imageNow State.reset) } }

/-- A CLEAR ALL about to begin its save. -/
def wiping : State := { State.reset with store := { State.reset.store with state := .saving, cause := .clearAll } }

/-- A CLEAR ALL whose copies have been set invalid. -/
def wiped (supok : Bool) : State :=
  { wiping with store := { wiping.store with write := .clearing, supok := supok } }

/-- A DORMANT store with a mark and image, and with checkpoint copies. -/
def stored (mark : Bool) (x y : Option CheckpointCopy) : State :=
  { State.reset with store := { State.reset.store with
      state := .dormant, mark := mark, image := some (imageNow State.reset), copyX := x, copyY := y } }

/-- A DORMANT store whose backup clock stands at a time. -/
def backed (t : Instant) : State :=
  { State.reset with store := { State.reset.store with state := .dormant, backup := ⟨t, true, true⟩ } }

/-- A restore of a kind, with every block waited for. -/
def restoring (k : RestoreKind) (valid : Bool) : State :=
  { State.reset with
    log := { State.reset.log with committed := ⟨[⟨7, someRecord⟩], 8⟩ }
    store := { State.reset.store with
      state := .restoring, waiting := blocks
      notice := ⟨k, .supply, some (imageNow State.reset), some someContents, ⟨⟨0, 59⟩, true, valid⟩⟩ } }

/-- A restore whose log has taken its notice. -/
def logRestored (k : RestoreKind) : State :=
  { restoring k true with store := { (restoring k true).store with waiting := [.interval] } }

/-- A WARM restore after 59 seconds, of a term with some validity left. -/
def termed (validity : Nat) : State :=
  { restoring .warm true with store := { (restoring .warm true).store with
      notice := { (restoring .warm true).store.notice with
        image := some { imageNow State.reset with
          term := ⟨true, .watts 3000, validity⟩, tally := { State.reset.interval.tally with seconds := 9 } } } } }

/-- A WARM restore whose blocks have all taken the notice, 59 seconds on. -/
def finished (supok : Bool) : State :=
  { restoring .warm true with
    timeBase := { State.reset.timeBase with start := ⟨0, 59⟩ }
    store := { (restoring .warm true).store with waiting := [], supok := supok } }

/-- The same restore with the record of an interrupted tally on its way to the log. -/
def interrupted : State :=
  { finished true with wires := { (finished true).wires with records := [someRecord] } }

/-- The restore waits until the log has taken that record in, whose commit begins in RESTORING (R114). -/
theorem test_restore_waits_for_record :
    (after .restoreComplete interrupted).store.state = .restoring ∧
    (after .recordIntake interrupted).store.state = .restoring ∧
    logReady (after .recordIntake interrupted).log = false ∧
    (after .restoreComplete (after .recordIntake interrupted)).store.state = .running := by decide

/-- The loss of VBK in a part without VDD (R149). -/
theorem test_backup_lost_without_vdd :
    (after .backupDomainLoss (inState .unpowered)).store.backup = ⟨⟨0, 0⟩, false, false⟩ := by decide

/-- The service port holding the claim under map rights to write SCHEDULE, with the enable closed. -/
def serviceHolds : State := { closed with tariff := (claimed .service).tariff }

/-- A port receiving while the engine serves another, with some waiting requests and unsent answers. -/
def receiving (n : Nat) (answers : List Answer) : State :=
  { State.reset with engine := { State.reset.engine with
      state := .sending .service, frontEnds := .all .receiving
      queues := (PerPort.all []).set .utility (List.replicate n (requestTo utility .command .disarm []))
      outbox := (PerPort.all []).set .utility answers } }

/-- An engine sending its answer to the utility port, with requests waiting at the service port. -/
def answering (waiting : List Request) : State :=
  { State.reset with engine := { State.reset.engine with
      state := .sending .utility, pointer := .utility, queues := (PerPort.all []).set .service waiting
      outbox := (PerPort.all []).set .utility [.executed 1#8 doneReply] } }

/-- VDD fails in RESTORING (R151): before the mark is erased the next restore is WARM again, afterwards it is not;
and the cut of a CLEAR ALL between its copies leaves Y (R155). -/
theorem test_restore_defeated_before_erasure :
    (after (.powerUp true) (after (.saveDefeated .beforeErasure)
      (after .supokRise (stored true none none)))).store.notice.kind = .warm ∧
    (after (.powerUp true) (after (.saveDefeated .plain)
      (after .supokRise (stored true none none)))).store.notice.kind = .cold := by decide

theorem test_clear_all_defeated_between_copies :
    let cut := after (.saveDefeated .betweenCopies) { wiping with store := { wiping.store with
      copyX := some someWrite.copy, copyY := some otherWrite.copy } }
    cut.store.copyX = none ∧ cut.store.copyY = some otherWrite.copy := by decide

/-- The greatest outage length of Table 9-1 is stored as it is (R153, step 3). -/
theorem test_greatest_outage :
    (setOutage { finished true with timeBase := { State.reset.timeBase with start := ⟨49710, 23295⟩ } }).store.outage =
      some 4294967295 := by decide

/-! ## Witnesses -/

/-- Both forms at the ends of the ranges. -/
theorem witness_ClampedSettingWrites :
    Ready State.reset ∧
    MayWrite State.reset .utility .grace ∧
    MayWrite State.reset .utility .band ∧
    MayWrite State.reset .utility .hold ∧
    Puts (.write 0#32) (natWord State.reset.envelope.grace) 0#32 ∧
    Puts (.exchange 5#32 61#32) (natWord State.reset.envelope.grace) 61#32 ∧
    Puts (.exchange 200#32 5000#32) (natWord State.reset.envelope.band) 5000#32 ∧
    Puts (.write 600#32) (natWord State.reset.envelope.hold) 600#32 ∧
    Ready closed ∧
    MayWrite closed .service .activeWidth ∧
    MayWrite closed .service .gapWidth ∧
    MayWrite closed .service .timeout ∧
    Puts (.exchange 40#32 1#32) (natWord closed.pulse.activeWidth) 1#32 ∧
    Puts (.write 500#32) (natWord closed.pulse.gapWidth) 500#32 ∧
    Puts (.exchange 30#32 241#32) (natWord closed.pulse.timeout) 241#32 := by
  and_intros <;> first | rfl | exact .inl rfl | exact .inr rfl

/-- UNLIMITED and the clamp of limits. -/
theorem witness_LimitAndTermCommands :
    Ready State.reset ∧
    MayWrite State.reset .utility .fallback ∧
    MayWrite State.reset .premises .siteLimit ∧
    MayWrite State.reset .utility .setTerm ∧
    Puts (.exchange 5000#32 4294967295#32) (limitWord State.reset.envelope.fallback) 4294967295#32 ∧
    Puts (.write 100001#32) (limitWord State.reset.envelope.site) 100001#32 ∧
    limitRead 4294967295#32 = .unlimited ∧
    limitRead 100001#32 = .watts 100000 ∧
    limitRead 100000#32 = .watts 100000 := by
  and_intros <;> first | rfl | exact .inl rfl | exact .inr rfl

/-- A gain and an offset of phase 1, present values included. -/
theorem witness_CalibrationWrites :
    Ready closed ∧
    MayWrite closed .service .creepThreshold ∧
    readObject closed .service (.gain .p1 .voltage) = .value 32768#32 ∧
    Puts (.exchange 32768#32 65535#32) 32768#32 65535#32 ∧
    readObject closed .service (.offset .p1 .current) = .value 0#32 ∧
    Puts (.write 4294965248#32) 0#32 4294965248#32 ∧
    Puts (.exchange 50#32 501#32) (natWord closed.metrology.creepThreshold) 501#32 ∧
    (4294965248#32 : Word).toInt = -2048 := by
  and_intros <;> first | rfl | exact .inl rfl | exact .inr rfl

/-- Each setting, and the divisor in TEST. -/
theorem witness_EnumeratedSettingWrites :
    Ready State.reset ∧
    MayWrite State.reset .utility .activeLevel ∧
    MayWrite State.reset .utility .freezeOnActivation ∧
    Puts (.write 2#32) (flagWord State.reset.envelope.activeHigh) 2#32 ∧
    Puts (.exchange 0#32 1#32) (flagWord State.reset.tariff.freezeOnActivation) 1#32 ∧
    Ready closed ∧
    MayWrite closed .service .pulseSource ∧
    MayWrite closed .service .divisor ∧
    Puts (.exchange 2#32 3#32) (natWord (pulseSourceCode closed.pulse.source)) 3#32 ∧
    Puts (.write 1000#32) (natWord closed.pulse.divisor) 1000#32 ∧
    Ready testing ∧
    MayWrite testing .service .divisor ∧
    testing.pulse.test = true := by
  and_intros <;> first | rfl | exact .inl rfl | exact .inr rfl

/-- From the utility port, and the basis from another port that may write. -/
theorem witness_PendingSettingWrites :
    Ready State.reset ∧
    MayWrite State.reset .utility .basis ∧
    Puts (.exchange 2#32 1#32) (natWord (basisCode State.reset.netting.basis)) 1#32 ∧
    MayWrite State.reset .utility .intervalLength ∧
    Puts (.write 60#32) (natWord State.reset.interval.length) 60#32 ∧
    MayWrite State.reset .utility .freezeDay ∧
    Puts (.write 28#32) (natWord State.reset.tariff.freezeDay) 28#32 ∧
    Ready granted ∧
    MayWrite granted .premises .basis := by
  and_intros <;> first | rfl | exact .inl rfl | exact .inr rfl

/-- A LOCKED and a MISMATCH link, and both changes of the phases in use. -/
theorem witness_LinkSettings :
    Ready closed ∧
    MayWrite closed .service .phasesInUse ∧
    Puts (.write 5#32) (natWord (closed.assembly.links.get .p1).configuredClass) 5#32 ∧
    Ready (sensing 2#8 full full) ∧
    MayWrite (sensing 2#8 full full) .utility .phasesInUse ∧
    Puts (.write 4#32) (natWord ((sensing 2#8 full full).assembly.links.get .p1).configuredClass) 4#32 ∧
    ((sensing 2#8 full full).assembly.links.get .p1).state = .locked ∧
    ((sensing 2#8 full full).assembly.links.get .p1).reportedClass = 2 ∧
    Ready mismatched ∧
    MayWrite mismatched .utility .phasesInUse ∧
    (mismatched.assembly.links.get .p1).state = .mismatch ∧
    Puts (.write 1#32) (natWord (mismatched.assembly.links.get .p1).configuredClass) 1#32 ∧
    Puts (.exchange 3#32 1#32) 3#32 1#32 ∧
    closed.assembly.phases = .three ∧
    Puts (.write 3#32) (natWord (phasesCode closed.assembly.phases)) 3#32 ∧
    Ready onePhase ∧
    MayWrite onePhase .utility .phasesInUse ∧
    onePhase.assembly.phases = .one ∧
    Puts (.exchange 1#32 3#32) 1#32 3#32 ∧
    Puts (.write 2#32) (natWord (phasesCode onePhase.assembly.phases)) 2#32 := by
  and_intros <;> first | rfl | exact .inl rfl | exact .inr rfl

/-- Phases in and out of use. -/
theorem witness_LinkCommands :
    Ready (sensing 2#8 full full) ∧
    MayWrite (sensing 2#8 full full) .utility .linkRestart ∧
    phaseInUse (sensing 2#8 full full).assembly.phases .p3 = true ∧
    ((sensing 2#8 full full).assembly.links.get .p3).state ≠ .down ∧
    natWord (phaseIndex .p3 + 1) = 3#32 ∧
    Ready State.reset ∧
    MayWrite State.reset .utility .linkRestart ∧
    (State.reset.assembly.links.get .p1).state = .down ∧
    Ready onePhase ∧
    MayWrite onePhase .utility .linkRestart ∧
    onePhase.assembly.phases = .one ∧
    (4#32 : Word).toNat = 4 := by
  and_intros <;> first | rfl | exact .inl rfl | exact .inr rfl | decide

/-- A READY and a COMMITTING log, from the service port and from another. -/
theorem witness_TotalsAndLogClear :
    Ready closed ∧
    MayWrite closed .service .logClear ∧
    closed.log.queue = [] ∧
    Ready committing ∧
    MayWrite committing .service .logClear ∧
    committing.log.queue ≠ [] ∧
    MayWrite committing .utility .logClear := by
  and_intros <;> first | rfl | exact .inl rfl | exact .inr rfl | decide

/-- A SET clock at the last day, a pending step, and an UNSET clock. -/
theorem witness_ClockCommands :
    Ready State.reset ∧
    MayWrite State.reset .utility .timeSet ∧
    State.reset.timeBase.set = false ∧
    Ready lastDay ∧
    MayWrite lastDay .utility .timeSet ∧
    lastDay.timeBase.set = true ∧
    lastDay.timeBase.step = none ∧
    (4294967266#32 : Word).toInt = -30 ∧
    (31#32 : Word).toInt = 31 ∧
    (65535 : Int) * 86400 + 86399 = 65535 * 86400 + (86398 + 1) + 0 ∧
    (65536 : Int) * 86400 ≤ 65535 * 86400 + (86398 + 1) + 31 ∧
    Ready stepping ∧
    MayWrite stepping .utility .timeSet ∧
    stepping.timeBase.set = true ∧
    stepping.timeBase.step = some ⟨0, 0⟩ ∧
    ((0 : Int) * 86400 + 0 + -30) < 0 := by
  and_intros <;> first | rfl | exact .inl rfl | exact .inr rfl | decide

/-- A free claim, one of the port itself, and one of another port. -/
theorem witness_ClaimTable :
    Ready State.reset ∧
    MayWrite State.reset .utility .claim ∧
    State.reset.tariff.claim = none ∧
    (2#32 : Word) ≠ natWord (portCode .utility) ∧
    Ready (claimed .utility) ∧
    MayWrite (claimed .utility) .utility .claim ∧
    (claimed .utility).tariff.claim = some .utility ∧
    Ready (claimed .service) ∧
    MayWrite (claimed .service) .utility .claim ∧
    (claimed .service).tariff.claim = some .service ∧
    Port.service ≠ .utility ∧
    claimCode (claimed .service).tariff.claim ≠ 0 := by
  and_intros <;> first | rfl | exact .inl rfl | exact .inr rfl | decide

/-- With and without the claim, at every kind of cursor. -/
theorem witness_PendingScheduleWrites :
    Ready (claimed .utility) ∧
    MayWrite (claimed .utility) .utility .scheduleEntry ∧
    (claimed .utility).tariff.claim = some .utility ∧
    readObject (claimed .utility) .utility (.pendingItem .revision) = .value 0#32 ∧
    readObject (claimed .utility) .utility (.pendingItem .specialCount) = .value 1#32 ∧
    readObject (claimed .utility) .utility (.pendingItem (.switchCount 3)) = .value 0#32 ∧
    Ready (pointing (.week .pending 6)) ∧
    MayWrite (pointing (.week .pending 6)) .utility .scheduleEntry ∧
    (pointing (.week .pending 6)).tariff.claim = some .utility ∧
    readObject (pointing (.week .pending 6)) .utility .scheduleEntry = .value 0#32 ∧
    (pointing (.week .pending 6)).engine.cursors.get .utility = .week .pending 6 ∧
    readObject (pointing (.special .pending 0)) .utility .scheduleEntry = .value 655361#32 ∧
    (pointing (.special .pending 1)).engine.cursors.get .utility = .special .pending 1 ∧
    (pointing (.switch 3 .pending 0)).engine.cursors.get .utility = .switch 3 .pending 0 ∧
    (pointing (.freeze 0)).engine.cursors.get .utility = .freeze 0 ∧
    (claimed .utility).engine.cursors.get .utility = .unset ∧
    readObject (pointing (.week .active 0)) .utility .scheduleEntry = .value 0#32 ∧
    (claimed .service).tariff.claim ≠ some .utility ∧
    MayWrite (claimed .service) .utility .scheduleEntry := by
  and_intros <;> first | rfl | exact .inl rfl | exact .inr rfl | decide

/-- A valid record, one with a bad week entry, and the states of the pending schedule. -/
theorem witness_ArmDisarmDiscard :
    Ready (claimed .utility) ∧
    MayWrite (claimed .utility) .utility .arm ∧
    (claimed .utility).tariff.claim = some .utility ∧
    (65535#32 : Word).toNat = 65535 ∧
    (∀ i : Fin 7, (claimed .utility).tariff.pending.week.get i ≤ 3) ∧
    (∀ e ∈ (claimed .utility).tariff.pending.special, e.dayType ≤ 3) ∧
    ((claimed .utility).tariff.pending.special.map SpecialDay.day).Pairwise (· < ·) ∧
    (∀ t : Fin 4, (((claimed .utility).tariff.pending.switches.get t).map Switch.minute).Pairwise (· < ·) ∧ ∀ w ∈ (claimed .utility).tariff.pending.switches.get t, w.minute ≤ 1439 ∧ 1 ≤ w.band ∧ w.band ≤ 6) ∧
    Ready badWeek ∧
    MayWrite badWeek .utility .arm ∧
    badWeek.tariff.claim = some .utility ∧
    3 < badWeek.tariff.pending.week.get 0 ∧
    Ready armed ∧
    MayWrite armed .utility .disarm ∧
    armed.tariff.pendingState = .armed ∧
    armed.tariff.claim = none ∧
    MayWrite (claimed .service) .utility .discard ∧
    (65536#32 : Word).toNat = 65536 ∧
    (1440#32 : Word).toNat = 1440 := by
  and_intros <;> first | rfl | exact .inl rfl | exact .inr rfl | decide

/-- Free, pending, in TEST, without the right, and at a dispatch. -/
theorem witness_FreezeAnnounces :
    Ready State.reset ∧
    MayWrite State.reset .utility .freeze ∧
    State.reset.pulse.test = false ∧
    State.reset.tariff.pendingFreeze = none ∧
    ¬ (effectiveRight State.reset.engine .premises .freeze = .write) ∧
    Ready testing ∧
    MayWrite testing .utility .freeze ∧
    testing.pulse.test = true ∧
    Ready frozen ∧
    frozen.tariff.pendingFreeze = some 4294967295 ∧
    frozen.wires.toTariff = [someDispatch] ∧
    { frozen with store := wiping.store }.store.state = .saving ∧
    { frozen with store := wiping.store }.wires.toTariff = [someDispatch] := by
  and_intros <;> first | rfl | exact .inl rfl | exact .inr rfl | decide

/-- An empty log, one of two records, and contexts at and past the newest. -/
theorem witness_ContextCommands :
    Ready State.reset ∧
    MayRead State.reset .premises .startAt ∧
    State.reset.log.records = [] ∧
    (State.reset.log.contexts.get .premises).reading = false ∧
    Ready logged ∧
    MayRead logged .premises .startAt ∧
    logged.log.records = ⟨7304, someRecord⟩ :: [] ++ [⟨7305, qualityRecord⟩] ∧
    (logged.log.contexts.get .premises).reading = true ∧
    (logged.log.contexts.get .premises).next = 7305 ∧
    (logged.log.contexts.get .utility).reading = true ∧
    (∀ r ∈ logged.log.records, r.sequence < (logged.log.contexts.get .utility).next) := by
  and_intros <;> first | rfl | exact .inl rfl | exact .inr rfl | decide

/-- The log of the witness is lawful. -/
theorem witness_ContextCommands_law :
    LogLaw logged := by
  exact ⟨⟨by decide, by decide, by decide, by decide⟩, ⟨by decide, by decide, by decide, by decide⟩, fun e he => by cases he⟩

/-- In NORMAL and in TEST, from the service port and from another that may write. -/
theorem witness_TestModeCommands :
    Ready closed ∧
    MayWrite closed .service .testOn ∧
    closed.engine.enable = true ∧
    closed.pulse.test = false ∧
    Ready testing ∧
    MayWrite testing .service .testOn ∧
    testing.pulse.test = true ∧
    Ready granted ∧
    MayWrite granted .premises .testOn := by
  and_intros <;> rfl

/-- From each port. -/
theorem witness_RestartAndClearAll :
    Ready closed ∧
    MayWrite closed .service .restart ∧
    closed.engine.enable = true ∧
    MayWrite closed .utility .restart ∧
    Ready granted ∧
    MayWrite granted .premises .restart := by
  and_intros <;> rfl

/-- A port that may read and write EVENTS, with an event latched. -/
theorem witness_LatchAndEnable :
    Ready State.reset ∧
    MayRead State.reset .premises .latch ∧
    MayWrite State.reset .premises .enable ∧
    State.reset.engine.latches.get .premises ≠ 0#15 ∧
    (32768#32 : Word).toNat = 32768 := by
  and_intros <;> first | rfl | exact .inl rfl | exact .inr rfl | decide

/-- A grant, a refusal, and the loss of a held claim. -/
theorem witness_RightsWrites :
    Ready State.reset ∧
    MayWrite State.reset .utility (.right .premises .test) ∧
    Puts (.exchange 0#32 2#32) (natWord (rightCode (mapRight State.reset.engine .premises .test))) 2#32 ∧
    Puts (.write 3#32) (natWord (rightCode (mapRight State.reset.engine .premises .test))) 3#32 ∧
    natWord (rightCode .write) = 2#32 ∧
    Ready granted ∧
    MayWrite granted .premises (.right .service .live) ∧
    MayWrite State.reset .utility (.right .utility .test) ∧
    MayWrite granted .utility (.right .premises .schedule) ∧
    mapRight granted.engine .premises .schedule = .write ∧
    granted.tariff.claim = some .premises := by
  and_intros <;> first | rfl | exact .inl rfl | exact .inr rfl

/-- A read-only object and a writable one. -/
theorem witness_CheckAndMismatch :
    Ready State.reset ∧
    readObject State.reset .premises .partCode = .value 3046#32 ∧
    MayRead State.reset .premises .partCode ∧
    readObject State.reset .utility .grace = .value 5#32 ∧
    MayWrite State.reset .utility .grace ∧
    Obj.access .grace = .readWrite ∧
    readObject State.reset .utility .enable = .value 0#32 ∧
    MayWrite State.reset .utility .enable := by
  and_intros <;> first | rfl | exact .inl rfl

/-- The groups of both cursors. -/
theorem witness_CursorSelection :
    Ready State.reset ∧
    MayRead State.reset .utility .scheduleCursor ∧
    MayRead State.reset .premises .freezeCursor ∧
    255 < 256 ∧ 16777215 < 16777216 ∧ 7 + 256 * 16777215 < 4294967296 := by
  exact ⟨⟨rfl, rfl, rfl⟩, .inr rfl, .inl rfl, by decide, by decide, by decide⟩

/-- A number without an object, a read-only object, and the identity. -/
theorem witness_RegisterWriteStages :
    Ready State.reset ∧
    objectNamed (0x0009#16 : BitVec 16).toNat = none ∧
    Obj.access .partCode = .readOnly ∧
    Obj.access .arm = .command ∧
    Obj.access .freezeCursor = .cursor ∧
    MayWrite State.reset .utility .identityUpper := by
  and_intros <;> rfl

/-- A write of the premises port on a group without a right. -/
theorem witness_UnreadablePortDenied :
    Ready State.reset ∧
    effectiveRight State.reset.engine .premises (Obj.group .creepThreshold) = .none ∧
    formOk .write (requestTo premises .write .creepThreshold [1#32]) = true ∧
    fits .write .creepThreshold (requestTo premises .write .creepThreshold [1#32]) = true ∧
    State.reset.engine.enable = false := by
  and_intros <;> rfl

/-- A service port under an open enable, whose map rights to write EVENTS are NONE. -/
theorem witness_ReadOnlyPortIsolated :
    ∀ g, effectiveRight State.reset.engine .service g ≠ .write := by
  intro g; cases g <;> decide

/-- An empty queue. -/
theorem witness_StepTakesFront :
    State.reset.pending = [] := by
  rfl

/-- Links in every state, with and without a set to close. -/
theorem witness_StrobeIssue :
    State.reset.store.state = .running ∧
    (inState .dormant).store.state ≠ .running ∧
    (State.reset.assembly.links.get .p1).state = .down ∧
    (State.reset.assembly.links.get .p1).control = .empty ∧
    (State.reset.assembly.links.get .p1).countdown = 0 ∧
    setToClose State.reset = none ∧
    setToClose (sensing 2#8 full bare) = some ⟨0#8, full⟩ ∧
    full.get .p2 = .filled someSample ∧
    bare.get .p2 = .empty ∧
    ((sensing 2#8 bare bare).assembly.links.get .p2).state = .locked ∧
    (mismatched.assembly.links.get .p1).countdown = 7 ∧
    (mismatched.assembly.links.get .p2).control = .restart ∧
    (mismatched.assembly.links.get .p2).state = .down ∧
    (mismatched.assembly.links.get .p3).state = .disabled ∧
    (worn.assembly.links.get .p1).missingRun = 31 ∧
    setToClose worn = some ⟨0#8, bare⟩ := by
  and_intros <;> first | rfl | exact .inl rfl | exact .inr rfl | decide

/-- A phase of every quality, and one at its last substituted set. -/
theorem witness_SetClosing :
    worn.store.state = .running ∧
    setToClose worn = some ⟨0#8, bare⟩ ∧
    worn.assembly.phases = .three ∧
    worn.assembly.quality = ⟨.good, .substituting, .lost⟩ ∧
    worn.assembly.substitutionRun.p2 = 3999 ∧
    setToClose onePhase = some ⟨0#8, full⟩ ∧
    onePhase.assembly.phases = .one ∧
    onePhase.assembly.quality.p1 = .lost := by
  and_intros <;> rfl

/-- The last closing of a second, with and without a step, at the day wrap, and one before the last. -/
theorem witness_SecondBoundary :
    (ending 0 none).store.state = .running ∧
    (setToClose (ending 0 none)).isSome = true ∧
    (ending 0 none).timeBase.length ≤ (ending 0 none).timeBase.counted + 1 ∧
    (ending 0 none).timeBase.start = ⟨65535, 86399⟩ ∧
    (ending 40 none).timeBase.slew = 40 ∧
    (ending (-40) none).timeBase.slew = -40 ∧
    (ending 0 (some ⟨1, 2⟩)).timeBase.step = some ⟨1, 2⟩ ∧
    (sensing 2#8 full full).timeBase.counted + 1 < (sensing 2#8 full full).timeBase.length ∧
    (setToClose (sensing 2#8 full full)).isSome = true ∧
    (sensing 2#8 full full).timeBase.start.second < 86399 := by
  and_intros <;> first | rfl | exact .inl rfl | exact .inr rfl | decide

/-- Each of the four expiries. -/
theorem witness_StrobeExpiries :
    (State.reset.assembly.links.get .p1).state = .down ∧
    (State.reset.assembly.links.get .p1).control = .empty ∧
    (State.reset.assembly.links.get .p1).countdown = 0 ∧
    setToClose worn = some ⟨0#8, bare⟩ ∧
    bare.get .p1 ≠ .filled someSample ∧
    (worn.assembly.links.get .p1).state = .locked ∧
    (worn.assembly.links.get .p1).missingRun = 31 ∧
    phaseInUse worn.assembly.phases .p2 = true ∧
    worn.assembly.quality.get .p2 = .substituting ∧
    worn.assembly.substitutionRun.get .p2 = 3999 ∧
    testing.store.state = .running ∧
    testing.pulse.test = true ∧
    1 < testing.pulse.timer ∧
    ({ testing with pulse := { testing.pulse with timer := 1 } } : State).pulse.timer = 1 := by
  and_intros <;> first | rfl | exact .inl rfl | exact .inr rfl | decide

/-- Frames of each kind, and links of each state. -/
theorem witness_UpstreamFrames :
    byteSum [4#8, 0#8, 0#8, 1#8, 2#8, 3#8, 246#8] % 256 = 0 ∧
    byteSum [3#8, 0#8, 0#8, 1#8, 0#8, 1#8, 0#8, 251#8] % 256 = 0 ∧
    byteSum [9#8, 1#8] % 256 ≠ 0 ∧
    (State.reset.assembly.links.get .p1).state = .down ∧
    ((sensing 2#8 bare bare).assembly.links.get .p1).state = .locked ∧
    (mismatched.assembly.links.get .p1).state = .mismatch ∧
    (mismatched.assembly.links.get .p3).state = .disabled ∧
    (∃ o ∈ (sensing 2#8 bare bare).assembly.openSets, o.number = 0#8 ∧ o.slots.get .p1 = .empty) ∧
    (∀ o ∈ (sensing 2#8 full bare).assembly.openSets, o.number = 0#8 → o.slots.get .p1 ≠ .empty) ∧
    (inState .saving).store.state ≠ .running ∧
    ((sensing 2#8 bare bare).assembly.links.get .p1).serial = 9#32 := by
  and_intros <;> first | rfl | exact .inl rfl | exact .inr rfl | decide

/-- A set of all four dispositions. -/
theorem witness_SampleSetTake :
    (measured 7).store.state = .running ∧
    (measured 7).wires.sets = [someClosedSet] ∧
    (measured 7).metrology.notices = [] ∧
    (measured 7).metrology.heldSets = [] ∧
    someClosedSet.dispositions = ⟨.sample someSample, .substituted, .lost⟩ := by
  and_intros <;> rfl

/-- A second that is full, one that is not, and one that its last set will fill. -/
theorem witness_SecondCloses :
    (noticed 7 7).store.state = .running ∧
    (noticed 7 7).wires.notices = [⟨7, .zero, .zero, none⟩] ∧
    (noticed 7 7).metrology.running.sets = 7 ∧
    (0 < 7) ∧
    (noticed 6 7).metrology.running.sets < 7 ∧
    (noticed 6 7).wires.sets = [someClosedSet] ∧
    7 = (noticed 6 7).metrology.running.sets + 1 ∧
    (noticed 6 7).metrology.heldSets = [] := by
  and_intros <;> first | rfl | exact .inl rfl | exact .inr rfl | decide

/-- A free unit and one that awaits. -/
theorem witness_NettingTakesSecond :
    (netting false).wires.toNetting = [summary 1 2 3] ∧
    (netting false).netting.awaiting = false ∧
    (netting false).netting.held = [] ∧
    (netting true).netting.awaiting = true := by
  and_intros <;> rfl

/-- Awaited or not, with and without a held summary. -/
theorem witness_Acknowledgments :
    (acknowledged true []).wires.acknowledgments = [.opened] ∧
    (acknowledged true []).netting.awaiting = true ∧
    (acknowledged true []).netting.held = [] ∧
    (acknowledged false []).netting.awaiting = false ∧
    (acknowledged true [summary 1 2 3]).netting.held = summary 1 2 3 :: [] := by
  and_intros <;> rfl

/-- A day of the special list with its switch list, and a dispatch of TEST. -/
theorem witness_TariffFiling :
    tariffed.wires.toTariff = [someDispatch] ∧
    tariffed.tariff.pendingFreeze = none ∧
    tariffed.tariff.freezeDay = 0 ∧
    tariffed.tariff.pendingState ≠ .armed ∧
    someDispatch.test = false ∧
    tariffed.tariff.active.special = [] ++ ⟨5, 2⟩ :: [] ∧
    tariffed.tariff.active.switches.get 2 = [⟨0, 6⟩] ∧
    someDispatch.start.second / 60 = 14 ∧
    (∀ e ∈ State.reset.tariff.active.special, e.day ≠ someDispatch.start.day) ∧
    State.reset.tariff.active.week.get (Fin.ofNat 7 (someDispatch.start.day + 5)) = 0 ∧
    State.reset.tariff.active.switches.get 0 = [] := by
  and_intros <;> first | rfl | exact .inl rfl | exact .inr rfl | decide

/-- A freeze that is due, one that is not, an undetermined reference, and an ARMED schedule before and at its time. -/
theorem witness_FreezeAndActivation :
    (freezing (some 3)).store.state = .running ∧
    (freezing (some 3)).wires.toTariff = [someDispatch] ∧
    (freezing (some 3)).tariff.pendingFreeze = none ∧
    someDispatch.finish.second ≤ 86400 ∧
    someDispatch.start.marked = true ∧
    (freezing (some 3)).tariff.pendingState ≠ .armed ∧
    (freezing (some 3)).tariff.freezeDay = 6 ∧
    latestFreezeDay 6 someDispatch.finish.day = some 5 ∧
    (freezing (some 3)).tariff.freezeReference = some 3 ∧
    (freezing (some 5)).tariff.freezeReference = some 5 ∧
    (freezing none).tariff.freezeReference = none ∧
    latestFreezeDay 6 someDispatch.start.day = some 5 ∧
    (arming 15).tariff.freezeDay = 0 ∧
    (arming 15).tariff.pendingState = .armed ∧
    (arming 15).tariff.activation = some ⟨5, 15⟩ ∧
    5 * 86400 + 15 * 60 ≤ 5 * 86400 + someDispatch.finish.second ∧
    5 * 86400 + someDispatch.finish.second < 5 * 86400 + 16 * 60 ∧
    (arming 16).tariff.activation = some ⟨5, 16⟩ ∧
    (arming 16).wires.toTariff = [someDispatch] ∧
    (arming 16).tariff.pendingFreeze = none := by
  and_intros <;> first | rfl | exact .inl rfl | exact .inr rfl | decide

/-- The ends of the ranges. -/
theorem witness_CalendarAndFreezeDays :
    (65534 < 65535) ∧
    latestFreezeDay 1 0 = some 0 ∧
    latestFreezeDay 28 0 = none ∧
    (28 ≤ 28) := by
  and_intros <;> first | rfl | exact .inl rfl | exact .inr rfl | decide

/-- Each part arriving last and arriving before another, on a boundary and within. -/
theorem witness_IntervalTakesSecond :
    (joining 0).store.state = .running ∧
    (joining 0).wires.toInterval = [summary 1 2 3] ∧
    (joining 0).interval.summaries = [] ∧
    (joining 0).interval.statuses = [someStatus] ∧
    (joining 0).interval.dispatch = some someDispatch ∧
    (joining 1).wires.statuses = [someStatus] ∧
    (joining 1).interval.statuses = [] ∧
    (joining 1).interval.summaries = [summary 1 2 3] ∧
    (joining 2).wires.dispatches = [someDispatch] ∧
    (joining 2).interval.dispatch = none ∧
    (joining 2).interval.summaries = [summary 1 2 3] ∧
    (joining 2).interval.statuses = [someStatus] ∧
    (summary 1 2 3).finish.second % (60 * State.reset.interval.tally.length) = 0 ∧
    900 % (60 * 60) ≠ 0 ∧
    (joining 3).wires.toInterval = [summary 1 2 3] ∧
    (joining 3).interval.statuses = [] ∧
    (joining 3).wires.statuses = [someStatus] ∧
    (joining 3).wires.dispatches = [someDispatch] ∧
    (joining 3).interval.summaries = [] ∧
    (joining 3).interval.dispatch = none := by
  and_intros <;> first | rfl | exact .inl rfl | exact .inr rfl | decide

/-- Limits, states and powers on both sides of each bound. -/
theorem witness_MonitorTakesSummary :
    (monitored .clear 0).store.state = .running ∧
    (monitored .clear 0).wires.toEnvelope = [summary (-229376000000) 0 0] ∧
    exportPower (summary (-229376000000) 0 0) = 3500 ∧
    exportPower (summary 0 0 0) = 0 ∧
    (monitored .clear 0).envelope.monitor.state = .clear ∧
    (monitored .overLimit 2).envelope.monitor.overCount = 2 ∧
    (monitored .curtailing 0).envelope.monitor.state = .curtailing ∧
    (monitored .holding 3).envelope.monitor.holdCount = 3 ∧
    effectiveLimit (monitored .clear 0).envelope = .watts 3000 ∧
    (∀ φ, (summary 1 2 3).quality.get φ ≠ .lost) := by
  refine ⟨rfl, rfl, rfl, rfl, rfl, rfl, rfl, rfl, rfl, ?_⟩
  intro φ; cases φ <;> decide

/-- The last second of a term, the last of the grace and the last of the hold. -/
theorem witness_MonitorExpiries :
    lapsing.store.state = .running ∧
    lapsing.wires.toEnvelope = [summary 0 0 0] ∧
    lapsing.envelope.term.inForce = true ∧
    lapsing.envelope.term.validity = 1 ∧
    (monitored .overLimit 2).envelope.term.inForce = false ∧
    effectiveLimit (monitored .overLimit 2).envelope = .watts 3000 ∧
    3000 < exportPower (summary (-229376000000) 0 0) ∧
    (monitored .overLimit 2).envelope.monitor.overCount + 1 = (monitored .overLimit 2).envelope.grace ∧
    releasing.wires.toEnvelope = [summary 0 0 0] ∧
    releasing.envelope.monitor.state = .holding ∧
    releasing.envelope.monitor.holdCount + 1 = releasing.envelope.hold ∧
    effectiveLimit releasing.envelope = .watts 3000 ∧
    (exportPower (summary 0 0 0) : Int) ≤ (3000 : Int) - releasing.envelope.band ∧
    releasing.envelope.line = true ∧
    releasing.store.state = .running ∧
    effectiveLimit { releasing.envelope with term := ⟨true, .watts 3000, 2⟩ } = .watts 3000 := by
  and_intros <;> first | rfl | exact .inl rfl | exact .inr rfl | decide

/-- Current and other hand-offs, and a generator in each state. -/
theorem witness_PulseUnit :
    (handed ⟨3, 4, false, 100⟩ .idle 0).store.state = .running ∧
    (handed ⟨3, 4, false, 100⟩ .idle 0).wires.handOffs = [⟨3, 4, false, 100⟩] ∧
    (handed ⟨3, 4, false, 100⟩ .idle 0).pulse.test = false ∧
    (handed ⟨3, 4, true, 100⟩ .idle 0).wires.handOffs = [⟨3, 4, true, 100⟩] ∧
    (handed ⟨3, 4, false, 100⟩ .active 0).pulse.generator = .active ∧
    (handed ⟨3, 4, false, 100⟩ .gap 5).pulse.pendingCount = 5 ∧
    (handed ⟨3, 4, false, 100⟩ .gap 0).pulse.generator = .gap ∧
    (handed ⟨3, 4, false, 100⟩ .gap 0).pulse.pendingCount = 0 ∧
    testing.pulse.test = true ∧
    testing.pulse.divisor ≠ 10 := by
  and_intros <;> first | rfl | exact .inl rfl | exact .inr rfl | decide

/-- Room, no room, the limit of N, and both kinds of commit. -/
theorem witness_LogIntakeAndCommit :
    intaking.store.state = .running ∧
    intaking.store.waiting = [] ∧
    intaking.wires.records = [qualityRecord] ∧
    intaking.log.next < 4294967296 ∧
    spent.log.next = 4294967296 ∧
    spent.wires.records = [qualityRecord] ∧
    spent.store.waiting = [] ∧
    intaking.log.queue = [] ∧
    { intaking with log := { intaking.log with queue := committing.log.queue } }.log.queue =
      .intake 1 ⟨[], 2⟩ :: [] ∧
    committing.log.queue = [.intake 1 ⟨[], 2⟩] ∧
    clearing.log.queue = [.clear ⟨[], 1⟩] := by
  and_intros <;> first | rfl | exact .inl rfl | exact .inr rfl | decide

/-- A first write, a write after each copy, and a waiting content. -/
theorem witness_CheckpointWrites :
    (checkpointed none none none).wires.checkpointNotices = 0 + 1 ∧
    (checkpointed none none none).store.lastCopy = none ∧
    (checkpointed none none none).store.found = none ∧
    (checkpointed (some .x) none none).store.lastCopy = some .x ∧
    (checkpointed (some .x) none none).store.copyWrite = none ∧
    (checkpointed (some .y) none none).store.lastCopy = some .y ∧
    (checkpointed none (some someWrite) none).store.copyWrite = some ⟨.x, someWrite.copy⟩ ∧
    (checkpointed none (some someWrite) (some someContents)).store.pendingCopy = some someContents ∧
    someWrite.copy.generation < 4294967295 ∧
    (checkpointed none (some otherWrite) none).store.copyWrite = some ⟨.y, someWrite.copy⟩ ∧
    (checkpointed none (some someWrite) none).store.pendingCopy = none := by
  and_intros <;> first | rfl | exact .inl rfl | exact .inr rfl | decide

/-- Each store state, at rest and not. -/
theorem witness_SupplyAndSave :
    State.reset.store.state = .running ∧
    (inState .saving).store.state = .saving ∧
    (inState .saving).store.write = .idle ∧
    (inState .saving).store.cause ≠ .clearAll ∧
    atRest (inState .saving) = true ∧
    (inState .saving).log.queue = [] ∧
    (inState .saving).store.copyWrite = none ∧
    (inState .saving).wires.checkpointNotices = 0 ∧
    committing.log.queue ≠ [] ∧
    saving.store.write = .image (imageNow State.reset) ∧
    saving.store.state = .saving ∧
    (inState .dormant).store.state = .dormant ∧
    (inState .unpowered).store.state = .unpowered ∧
    wiping.store.cause = .clearAll ∧
    wiping.store.state = .saving ∧
    wiping.store.write = .idle ∧
    atRest wiping = true ∧
    (wiped true).store.state = .saving ∧
    (wiped true).store.write = .clearing ∧
    (wiped true).store.mark = false ∧
    (wiped true).store.copyX = none ∧
    (wiped true).store.copyY = none ∧
    (wiped true).store.supok = true ∧
    (wiped false).store.supok = false := by
  and_intros <;> first | rfl | exact .inl rfl | exact .inr rfl | decide

/-- An image with its mark, one copy, two copies, and none. -/
theorem witness_RestoreKinds :
    (inState .dormant).store.state = .dormant ∧
    (inState .dormant).store.copyX = none ∧
    (inState .dormant).store.copyY = none ∧
    (stored true none none).store.mark = true ∧
    (stored true none none).store.image = some (imageNow State.reset) ∧
    (stored true none none).store.state = .dormant ∧
    (stored false (some ⟨someContents, 4⟩) none).store.copyX = some ⟨someContents, 4⟩ ∧
    (stored false (some ⟨someContents, 4⟩) none).store.copyY = none ∧
    (stored false none (some ⟨someContents, 4⟩)).store.copyY = some ⟨someContents, 4⟩ ∧
    (stored false (some ⟨someContents, 0⟩) (some ⟨someContents, 4294967295⟩)).store.copyY = some ⟨someContents, 4294967295⟩ ∧
    0 = (4294967295 + 1) % 4294967296 ∧
    (stored false none none).store.mark = false := by
  and_intros <;> rfl

/-- Each state that loses VDD, and the backup clock at the end of a day and of all days. -/
theorem witness_PowerLosses :
    State.reset.store.state = .running ∧
    (inState .restoring).store.state = .restoring ∧
    (∃ b, b ∉ (inState .restoring).store.waiting) ∧
    wiping.store.state = .saving ∧ wiping.store.cause = .clearAll ∧ wiping.store.write = .idle ∧
    atRest wiping = true ∧
    (restoring .warm true).store.state = .restoring ∧
    (restoring .warm true).store.notice.kind = .warm ∧
    (∀ b, b ∈ (restoring .warm true).store.waiting) ∧
    (inState .dormant).store.state = .dormant ∧
    (inState .dormant).store.state ≠ .unpowered ∧ (inState .unpowered).store.state = .unpowered ∧
    (backed ⟨65535, 86399⟩).store.backup.time = ⟨65535, 86399⟩ ∧
    (backed ⟨7, 86399⟩).store.backup.time.second = 86399 ∧
    (backed ⟨7, 86398⟩).store.backup.time.second < 86399 ∧
    (backed ⟨7, 86399⟩).store.state ≠ .running := by
  and_intros <;> first
    | rfl | exact ⟨.log, by decide⟩ | (intro b; cases b <;> decide) | decide

/-- Restores of the three kinds, with the clock VALID and INVALID. -/
theorem witness_SensingAndMeteringRestores :
    (restoring .warm true).store.state = .restoring ∧
    Block.assembly ∈ (restoring .warm true).store.waiting ∧
    Block.metrology ∈ (restoring .warm true).store.waiting ∧
    Block.netting ∈ (restoring .warm true).store.waiting ∧
    Block.timeBase ∈ (restoring .warm true).store.waiting ∧
    Block.timeBase ∉ (inState .restoring).store.waiting ∧
    (restoring .warm true).store.notice.image = some (imageNow State.reset) ∧
    (restoring .checkpoint false).store.notice.checkpoint = some someContents ∧
    (restoring .checkpoint false).store.notice.reading.valid = false ∧
    (restoring .checkpoint false).log.committed.records = [] ++ [⟨7, someRecord⟩] ∧
    someRecord.finish.second < 86400 ∧
    (restoring .cold false).store.notice.kind = .cold := by
  and_intros <;> first | rfl | exact .inl rfl | exact .inr rfl | decide

/-- Restores of the three kinds, with a term that is left and one that is not. -/
theorem witness_BillingAndPortRestores :
    Block.log ∉ (logRestored .warm).store.waiting ∧
    Block.interval ∈ (logRestored .warm).store.waiting ∧
    (logRestored .warm).store.state = .restoring ∧
    Block.tariff ∈ (restoring .warm true).store.waiting ∧
    Block.log ∈ (restoring .warm true).store.waiting ∧
    Block.envelope ∈ (restoring .warm true).store.waiting ∧
    Block.pulse ∈ (restoring .cold true).store.waiting ∧
    Block.engine ∈ (restoring .checkpoint true).store.waiting ∧
    (termed 60).store.notice.image = some { imageNow State.reset with term := ⟨true, .watts 3000, 60⟩, tally := { State.reset.interval.tally with seconds := 9 } } ∧
    (termed 60).store.notice.reading.valid = true ∧
    (termed 60).store.notice.reading.time = ⟨0, 59⟩ ∧
    59 < 60 ∧
    (termed 59).store.notice.kind = .warm ∧
    59 ≤ 59 ∧
    (restoring .checkpoint true).tariff.freezes = [] := by
  and_intros <;> first | rfl | exact .inl rfl | exact .inr rfl | decide

/-- All notices taken, with SUPOK high and low, with an outage and without. -/
theorem witness_RestoreCompletes :
    (inState .restoring).store.state = .restoring ∧
    (inState .restoring).store.waiting = [] ∧ (inState .restoring).wires.records = [] ∧
    (inState .restoring).store.supok = true ∧
    (restoring .warm true).store.waiting ≠ [] ∧
    (finished true).store.waiting = [] ∧ (finished true).wires.records = [] ∧
    interrupted.store.state = .restoring ∧ interrupted.wires.records = [someRecord] ∧
    Block.log ∉ interrupted.store.waiting ∧ interrupted.log.queue = [] ∧ interrupted.log.next < 4294967296 ∧
    (finished true).store.notice.kind = .warm ∧
    (finished true).store.notice.reading.valid = true ∧
    (finished true).store.notice.image = some (imageNow State.reset) ∧
    (finished false).store.supok = false ∧
    (finished false).store.state = .restoring ∧
    (imageNow State.reset).start.day * 86400 + (imageNow State.reset).start.second ≤ (finished true).timeBase.start.day * 86400 + (finished true).timeBase.start.second := by
  and_intros <;> first | rfl | exact .inl rfl | exact .inr rfl | decide

/-- A closing, an opening in TEST, and an opening with a service claim. -/
theorem witness_CalenChange :
    true ≠ State.reset.engine.calen ∧
    State.reset.store.state = .running ∧
    false ≠ testing.engine.calen ∧
    testing.store.state = .running ∧
    testing.pulse.test = true ∧
    (inState .dormant).store.state ≠ .running ∧
    (inState .dormant).store.state ≠ .saving ∧
    serviceHolds.tariff.claim = some .service ∧
    mapRight serviceHolds.engine .service .schedule = .write ∧
    serviceHolds.engine.calen = true ∧
    serviceHolds.store.state = .running := by
  and_intros <;> first | rfl | exact .inl rfl | exact .inr rfl | decide

/-- A port in HUNT, one receiving, a busy engine, and a full queue. -/
theorem witness_FrontEnds :
    (inState .saving).store.state ≠ .running ∧
    State.reset.engine.frontEnds.get .utility = .hunt ∧
    (receiving 0 []).store.state = .running ∧
    (receiving 0 []).engine.frontEnds.get .utility = .receiving ∧
    (receiving 0 []).engine.state = .sending .service ∧
    ((receiving 2 []).engine.queues.get .utility).length < 3 ∧
    3 ≤ ((receiving 3 []).engine.queues.get .utility).length ∧
    (∀ g ∈ (receiving 3 []).engine.outbox.get .utility, isFull g = false) ∧
    (Answer.full 5#8) ∈ (receiving 3 [.full 5#8]).engine.outbox.get .utility ∧
    ([1#8, 7#8, 10#8, 0#8] : List Byte).length = 4 ∧
    (22#16 : BitVec 16) = BitVec.ofNat 16 (4 + byteSum [1#8, 7#8, 10#8, 0#8]) ∧
    (0#16 : BitVec 16) ≠ BitVec.ofNat 16 (4 + byteSum [1#8, 7#8, 10#8, 0#8]) := by
  and_intros <;> first | rfl | exact .inl rfl | exact .inr rfl | decide

/-- Requests of both shapes, and a body of each length. -/
theorem witness_FrameRoundTrip :
    (requestTo utility .exchange .grace [1#32, 2#32]).count = none ∧
    (requestTo utility .exchange .grace [1#32, 2#32]).operands.length ≤ 2 ∧
    (readRequest utility .latch 1#8).count ≠ none ∧
    (readRequest utility .latch 1#8).operands = [] ∧
    (12 ∈ bodyLengths) ∧
    (4 ∈ bodyLengths) := by
  and_intros <;> first | rfl | exact .inl rfl | exact .inr rfl | decide

/-- A sent FULL answer, and a sent answer with and without a waiting request. -/
theorem witness_AnswersAndRotation :
    (receiving 0 [.full 5#8]).engine.outbox.get .utility = .full 5#8 :: [] ∧
    (answering []).engine.state = .sending .utility ∧
    (answering []).engine.outbox.get .utility = .executed 1#8 doneReply :: [] ∧
    (answering []).engine.queues = .all [] ∧
    (answering []).store.state = .running ∧
    (answering [requestTo service .command .discard []]).engine.queues.get .service = requestTo service .command .discard [] :: [] ∧
    rotationAfter (answering []).engine.pointer = [.premises] ++ .service :: [.utility] ∧
    (answering [requestTo service .command .discard []]).engine.queues.get .premises = [] := by
  and_intros <;> rfl

/-- Requests of each kind of command, at a ready, a busy and a full engine, and outside RUNNING. -/
theorem witness_RequestsTakenOrQueued :
    requestSender (.disarm utility) = some utility ∧
    requestSender (.restart service) = some service ∧
    requestSender (.latchRead premises 1#8) = some premises ∧
    Ready State.reset ∧
    (inState .saving).store.state ≠ .running ∧
    (receiving 0 []).store.state = .running ∧
    (receiving 0 []).engine.state = .sending .service ∧
    ((receiving 2 []).engine.queues.get .utility).length < 3 ∧
    3 ≤ ((receiving 3 []).engine.queues.get .utility).length ∧
    (∀ g ∈ (receiving 3 []).engine.outbox.get .utility, isFull g = false) ∧
    Answer.full 5#8 ∈ (receiving 3 [.full 5#8]).engine.outbox.get .utility := by
  and_intros <;> first | rfl | decide

/-- Registers, totals and settings within their bounds, and a step from there. -/
theorem witness_BoundsKept :
    WhBounded State.reset ∧ SettingsLegal State.reset ∧
      step { State.reset with pending := [.graceWrite utility (.write 60#32)] } =
        .next (after (.graceWrite utility (.write 60#32)) State.reset) := by
  refine ⟨⟨rfl, rfl, by decide, by decide, rfl⟩, ?_, rfl⟩
  refine ⟨fun φ => ?_, by decide, by decide, fun m h => by simp [State.reset, IntervalUnit.cold] at h, by decide,
    by simp [State.reset, Envelope.cold, Limit.legal], trivial, by decide, by decide, by decide, by decide,
    by decide, by decide, by decide⟩
  cases φ <;> exact ⟨⟨by decide, by decide, by decide, by decide⟩, by decide, by decide⟩

/-- A step that changes the state: the invariants hold before it by ResetCold, and a step is taken. -/
theorem witness_StepInvariants :
    step { State.reset with pending := [.supokFall] } = .next (after .supokFall State.reset) := by
  rfl

end Sys2Proof.Tests
end

section
/-! PROOF. The billing accumulators (R38 to R40): what the accumulator law speaks of, the operations that leave it as it
is, the few that change it, and that every step keeps it. -/

namespace Sys2Proof.Machine

/-! ## What the law speaks of -/

/-- A save image that the store has: in the nonvolatile store, in the restore notice, or being written. -/
def Store.keeps (r : Store) (i : SaveImage) : Prop :=
  r.image = some i ∨ r.notice.image = some i ∨ r.write = .image i

/-- A summary that the netting unit has still to take: on its way to the unit, or held there. -/
def summaryWaits (s : State) (y : Summary) : Prop := y ∈ s.wires.toNetting ∨ y ∈ s.netting.held

/-- The part of the state that the accumulator law speaks of. -/
structure AccumulatorView where
  accumulators : Accumulators
  held : List Summary
  arriving : List Summary
  image : Option SaveImage
  noticeImage : Option SaveImage
  write : SaveWrite

/-- The accumulators of a state, the summaries that feed them, and the save images. -/
def accumulatorView (s : State) : AccumulatorView :=
  ⟨s.netting.accumulators, s.netting.held, s.wires.toNetting, s.store.image, s.store.notice.image, s.store.write⟩

/-- The law carries over to a state with the same accumulators and with no image and no summary that was not there
before. -/
theorem AccumulatorLaw.mono {s t : State} (h : AccumulatorLaw s)
    (ha : t.netting.accumulators = s.netting.accumulators) (hi : ∀ i, t.store.keeps i → s.store.keeps i)
    (hy : ∀ y, summaryWaits t y → summaryWaits s y) : AccumulatorLaw t := by
  obtain ⟨accumulators, images, summaries⟩ := h
  exact ⟨ha ▸ accumulators, fun i k => images i (hi i k), fun y k => summaries y (hy y k)⟩

/-- A summary that waits in a lawful state is lawful. -/
theorem AccumulatorLaw.summary {s : State} (h : AccumulatorLaw s) {y : Summary} (hy : summaryWaits s y) :
    y.lawful := by
  obtain ⟨-, -, summaries⟩ := h
  exact summaries y hy

/-- The law reads nothing but the view. -/
theorem AccumulatorLaw.of_view {s t : State} (h : AccumulatorLaw s)
    (hv : accumulatorView t = accumulatorView s) : AccumulatorLaw t := by
  simp only [accumulatorView, AccumulatorView.mk.injEq] at hv
  obtain ⟨accumulators, held, arriving, image, notice, write⟩ := hv
  refine h.mono accumulators (fun i k => ?_) (fun y k => ?_)
  · rwa [Store.keeps, image, notice, write] at k
  · rwa [summaryWaits, arriving, held] at k

/-- A conditional change keeps the view when the change does. -/
theorem ite_view {c : Prop} [Decidable c] {s t : State} (h : accumulatorView t = accumulatorView s) :
    accumulatorView (if c then t else s) = accumulatorView s := by
  split
  · exact h
  · rfl

/-! ## Events (R169) -/

@[simp] theorem raise_view (k : EventKind) (s : State) : accumulatorView (raise k s) = accumulatorView s := by
  simp [accumulatorView]

@[simp] theorem raiseFor_view (k : EventKind) (p : Port) (s : State) :
    accumulatorView (raiseFor k p s) = accumulatorView s := by
  simp [accumulatorView]

@[simp] theorem raiseIf_view (c : Bool) (k : EventKind) (s : State) :
    accumulatorView (raiseIf c k s) = accumulatorView s := by
  simp [accumulatorView]

/-! ## Links, sets and strobes (R1 to R16, R60, R139) -/

theorem changeLink_view (φ : Phase) (target : LinkState) (s : State) :
    accumulatorView (changeLink φ target s) = accumulatorView s := by
  obtain ⟨l, o, a, n, e⟩ := changeLink_shape φ target s
  rw [e]
  rfl

theorem stepMissingRun_view (o : OpenSet) (φ : Phase) (s : State) :
    accumulatorView (stepMissingRun o φ s) = accumulatorView s := by
  obtain ⟨l, x, a, n, e⟩ := stepMissingRun_shape o φ s
  rw [e]
  rfl

theorem closeQuality_view (o : OpenSet) (s : State) :
    accumulatorView (closeQuality o s) = accumulatorView s := by
  obtain ⟨q, r, x, w, a, n, e⟩ := closeQuality_shape o s
  rw [e]
  rfl

theorem countClosing_view (s : State) : accumulatorView (countClosing s) = accumulatorView s := by
  obtain ⟨b, w, c, a, n, e⟩ := countClosing_shape s
  rw [e]
  rfl

theorem closeSet_view (o : OpenSet) (s : State) : accumulatorView (closeSet o s) = accumulatorView s := by
  simp only [closeSet, phases, List.foldl_cons, List.foldl_nil, countClosing_view, stepMissingRun_view,
    closeQuality_view]

theorem closeDueSet_view (s : State) : accumulatorView (closeDueSet s) = accumulatorView s := by
  unfold closeDueSet
  split
  · exact closeSet_view _ s
  · rfl

theorem endTest_view (c : ExitCause) (s : State) : accumulatorView (endTest c s) = accumulatorView s := by
  obtain ⟨u, a, n, e⟩ := endTest_shape c s
  rw [e]
  rfl

theorem tickTestTimer_view (s : State) : accumulatorView (tickTestTimer s) = accumulatorView s := by
  unfold tickTestTimer
  exact ite_view (ite_view (endTest_view .timer _))

theorem issueStrobe_view (s : State) : accumulatorView (issueStrobe s) = accumulatorView s :=
  (tickTestTimer_view _).trans (closeDueSet_view s)

theorem takeSample_view (φ : Phase) (n : Byte) (x : Sample) (s : State) :
    accumulatorView (takeSample φ n x s) = accumulatorView s := by
  unfold takeSample
  split <;> rfl

theorem takeIdentity_view (φ : Phase) (serial : Word) (c : Nat) (s : State) :
    accumulatorView (takeIdentity φ serial c s) = accumulatorView s := by
  unfold takeIdentity
  dsimp only
  split
  · rfl
  · exact changeLink_view _ _ _
  · split
    · split
      · rfl
      · exact raise_view _ _
    · exact changeLink_view _ _ _
  · split
    · exact changeLink_view _ _ _
    · rfl

theorem receiveFrame_view (φ : Phase) (bytes : List Byte) (s : State) :
    accumulatorView (receiveFrame φ bytes s) = accumulatorView s := by
  unfold receiveFrame
  split
  · rfl
  · split
    · rfl
    · exact takeIdentity_view _ _ _ s
    · exact ite_view (takeSample_view _ _ _ s)

theorem setConfiguredClass_view (φ : Phase) (c : Nat) (s : State) :
    accumulatorView (setConfiguredClass φ c s) = accumulatorView s := by
  unfold setConfiguredClass
  dsimp only
  split
  · rfl
  · split
    · split
      · rfl
      · exact changeLink_view _ _ _
    · rfl
    · rfl
    · rfl

theorem disablePhase_view (φ : Phase) (s : State) : accumulatorView (disablePhase φ s) = accumulatorView s :=
  (raiseIf_view _ _ _).trans (changeLink_view φ .disabled s)

theorem enablePhase_view (φ : Phase) (s : State) : accumulatorView (enablePhase φ s) = accumulatorView s :=
  (raise_view _ _).trans (changeLink_view φ .down s)

theorem setPhasesInUse_view (u : PhasesInUse) (s : State) :
    accumulatorView (setPhasesInUse u s) = accumulatorView s := by
  unfold setPhasesInUse
  split
  · rfl
  · cases u with
    | one => exact (disablePhase_view _ _).trans (disablePhase_view _ _)
    | three => exact (enablePhase_view _ _).trans (enablePhase_view _ _)

/-! ## Tariff, interval, log and envelope -/

theorem takeFreeze_view (n : Nat) (c : FreezeCause) (d : Option Nat) (t : Stamp) (s : State) :
    accumulatorView (takeFreeze n c d t s) = accumulatorView s := by
  obtain ⟨f, a, l, e⟩ := takeFreeze_shape n c d t s
  rw [e]
  rfl

theorem takeNumberedFreeze_view (c : FreezeCause) (d : Option Nat) (t : Stamp) (s : State) :
    accumulatorView (takeNumberedFreeze c d t s) = accumulatorView s :=
  takeFreeze_view s.tariff.nextFreeze c d t s

theorem takeCommandFreeze_view (d : Dispatch) (s : State) :
    accumulatorView (takeCommandFreeze d s) = accumulatorView s := by
  unfold takeCommandFreeze
  split
  · exact takeFreeze_view _ _ _ _ s
  · rfl

theorem takeScheduledFreeze_view (d : Dispatch) (s : State) :
    accumulatorView (takeScheduledFreeze d s) = accumulatorView s := by
  unfold takeScheduledFreeze
  refine ite_view ?_
  split
  · exact takeNumberedFreeze_view _ _ _ s
  · rfl

theorem activateSchedule_view (d : Dispatch) (s : State) :
    accumulatorView (activateSchedule d s) = accumulatorView s := by
  unfold activateSchedule
  exact ite_view ((raise_view _ _).trans (ite_view (takeNumberedFreeze_view _ _ _ s)))

theorem takeTariffDispatch_view (d : Dispatch) (s : State) :
    accumulatorView (takeTariffDispatch d s) = accumulatorView s := by
  unfold takeTariffDispatch
  rw [activateSchedule_view, takeScheduledFreeze_view, takeCommandFreeze_view]
  rfl

theorem joinSecond_view (s : State) : accumulatorView (joinSecond s) = accumulatorView s := by
  unfold joinSecond
  split
  · next y _ e _ d _ _ _ =>
    obtain ⟨u, r, k, a, l, h⟩ := takeJoined_shape y e d _
    rw [h]
    rfl
  · rfl

theorem takeRecord_view (b : IntervalRecord) (s : State) :
    accumulatorView (takeRecord b s) = accumulatorView s := by
  unfold takeRecord
  dsimp only
  split
  · rfl
  · obtain ⟨a, l, e⟩ := raiseGaps_shape (evict (slotCount b) s.log.records).1 s.log.contexts _
    rw [e]
    rfl

theorem envelopeSummary_view (s : State) : accumulatorView (envelopeSummary s) = accumulatorView s := by
  unfold envelopeSummary
  split
  · rfl
  · next y _ _ =>
    obtain ⟨w, a, l, e⟩ := takeEnvelopeSummary_shape y _
    rw [e]
    rfl

/-! ## The checkpoint copies (R150) -/

theorem setCopy_images (n : CopyName) (c : Option CheckpointCopy) (r : Store) :
    (setCopy n c r).image = r.image ∧ (setCopy n c r).notice = r.notice ∧ (setCopy n c r).write = r.write := by
  cases n <;> exact ⟨rfl, rfl, rfl⟩

/-- A checkpoint write that begins bears on no save image. -/
theorem beginCopy_images (c : CheckpointContents) (r : Store) :
    (beginCopy c r).image = r.image ∧ (beginCopy c r).notice = r.notice ∧ (beginCopy c r).write = r.write :=
  setCopy_images (writeTarget r) none r

/-- A checkpoint write that ends bears on no save image. -/
theorem endCopy_images (r : Store) :
    (endCopy r).image = r.image ∧ (endCopy r).notice = r.notice ∧ (endCopy r).write = r.write := by
  unfold endCopy
  split
  · exact ⟨rfl, rfl, rfl⟩
  · next w _ =>
    dsimp only
    obtain ⟨image, notice, write⟩ := setCopy_images w.target (some w.copy) r
    split
    · exact ⟨image, notice, write⟩
    · next c _ =>
      obtain ⟨image', notice', write'⟩ := beginCopy_images c { setCopy w.target (some w.copy) r with
        lastCopy := some w.target, copyWrite := none, pendingCopy := none }
      exact ⟨image'.trans image, notice'.trans notice, write'.trans write⟩

/-! ## The dispatch step (R39, R40) -/

theorem Accumulators.lawful_zero : Accumulators.zero.lawful :=
  ⟨fun φ => by cases φ <;> decide, by decide, by decide⟩

/-- Every accumulator gives up whole quanta, and the sum energy is the sum of the energies (R32), so the four
accumulators stay a whole multiple of Q apart. -/
theorem Accumulators.lawful.step {a : Accumulators} {y : Summary} (ha : a.lawful) (hy : y.lawful) :
    (stepAccumulators a y).lawful := by
  have hq : (0 : Int) < quantum := by decide
  refine ⟨fun φ => ?_, stepRemainder_lt hq _ _, ?_⟩
  · simpa [stepAccumulators] using stepRemainder_lt hq _ _
  · obtain ⟨-, -, apart⟩ := ha
    have given : ∀ φ, quantum ∣ a.phase.get φ + y.energy.get φ - (stepAccumulators a y).phase.get φ :=
      fun φ => by simpa [stepAccumulators] using stepRemainder_dvd quantum (a.phase.get φ) (y.energy.get φ)
    have givenSum : quantum ∣ a.sum + y.sumEnergy - (stepAccumulators a y).sum :=
      stepRemainder_dvd quantum a.sum y.sumEnergy
    have regroup : (stepAccumulators a y).sum - sumInt (stepAccumulators a y).phase =
        (a.sum - sumInt a.phase) - (a.sum + y.sumEnergy - (stepAccumulators a y).sum) +
          ((a.phase.get .p1 + y.energy.get .p1 - (stepAccumulators a y).phase.get .p1) +
            (a.phase.get .p2 + y.energy.get .p2 - (stepAccumulators a y).phase.get .p2) +
            (a.phase.get .p3 + y.energy.get .p3 - (stepAccumulators a y).phase.get .p3)) := by
      rw [hy]
      simp only [sumInt, PerPhase.get]
      ring
    rw [regroup]
    exact (apart.sub givenSum).add (((given .p1).add (given .p2)).add (given .p3))

/-- Four accumulators that each lie strictly between -Q and Q are less than 4 Q apart (R40). -/
theorem Accumulators.lawful.multiple {a : Accumulators} (h : a.lawful) :
    ∃ k : Int, -3 ≤ k ∧ k ≤ 3 ∧ a.sum - sumInt a.phase = k * quantum := by
  obtain ⟨phase, sum, k, hk⟩ := h
  have h1 := abs_lt.mp (phase .p1)
  have h2 := abs_lt.mp (phase .p2)
  have h3 := abs_lt.mp (phase .p3)
  have hs := abs_lt.mp sum
  simp only [PerPhase.get, sumInt, quantum] at *
  exact ⟨k, by omega, by omega, by omega⟩

/-- A second that the metrology unit closes gives a lawful summary (R32, R33). -/
theorem summaryOf_lawful (threshold : Nat) (b : BoundaryNotice) (r : Running) :
    (summaryOf threshold b r).lawful := rfl

/-! ## The netting unit (R41, R42, R52) -/

theorem takeSecond_lawful {s : State} (h : AccumulatorLaw s) {y : Summary} (hy : y.lawful) :
    AccumulatorLaw (takeSecond y s) := by
  obtain ⟨accumulators, images, summaries⟩ := h
  exact ⟨accumulators.step hy, images, summaries⟩

theorem nettingSummary_lawful {s : State} (h : AccumulatorLaw s) {y : Summary} (hy : y.lawful) :
    AccumulatorLaw (nettingSummary y s) := by
  unfold nettingSummary
  split
  · exact takeSecond_lawful h hy
  · obtain ⟨accumulators, images, summaries⟩ := h
    refine ⟨accumulators, images, fun z hz => ?_⟩
    rcases hz with hz | hz
    · exact summaries z (.inl hz)
    · rcases List.mem_append.mp hz with hz | hz
      · exact summaries z (.inr hz)
      · rwa [List.mem_singleton.mp hz]

theorem takeHeld_lawful {s : State} (h : AccumulatorLaw s) : AccumulatorLaw (takeHeld s) := by
  unfold takeHeld
  split
  · exact h
  · next y ys hl =>
    have rest : AccumulatorLaw { s with netting := { s.netting with held := ys } } :=
      h.mono rfl (fun _ k => k) fun z hz => hz.imp_right fun hz => hl ▸ List.mem_cons_of_mem y hz
    exact takeSecond_lawful rest (h.summary (.inr (hl ▸ List.mem_cons_self)))

theorem applyBasis_fields (n : Netting) :
    (applyBasis n).accumulators = n.accumulators ∧ (applyBasis n).held = n.held := by
  unfold applyBasis
  split <;> exact ⟨rfl, rfl⟩

theorem takeAcknowledgment_lawful {s : State} (h : AccumulatorLaw s) (a : Acknowledgment) :
    AccumulatorLaw (takeAcknowledgment a s) := by
  unfold takeAcknowledgment
  split
  · refine takeHeld_lawful (h.of_view ?_)
    obtain ⟨accumulators, held⟩ := applyBasis_fields { s.netting with awaiting := false }
    dsimp only
    split
    · simp only [accumulatorView, accumulators, held]
    · rfl
  · exact h

theorem clearTotals_lawful {s : State} (h : AccumulatorLaw s) :
    AccumulatorLaw { s with netting := clearTotals s.netting } := by
  obtain ⟨-, images, summaries⟩ := h
  exact ⟨Accumulators.lawful_zero, images, summaries⟩

/-! ## The metrology unit (R28, R35) -/

theorem closeSecond_lawful {s : State} (h : AccumulatorLaw s) (b : BoundaryNotice) :
    AccumulatorLaw (closeSecond b s) := by
  obtain ⟨accumulators, images, summaries⟩ := h
  refine ⟨accumulators, images, fun y hy => ?_⟩
  rcases hy with hy | hy
  · rcases List.mem_append.mp hy with hy | hy
    · exact summaries y (.inl hy)
    · rw [List.mem_singleton.mp hy]
      exact summaryOf_lawful _ _ _
  · exact summaries y (.inr hy)

theorem closeWhenComplete_lawful {s : State} (h : AccumulatorLaw s) : AccumulatorLaw (closeWhenComplete s) := by
  unfold closeWhenComplete
  split
  · exact h
  · next b _ _ =>
    split
    · have closed := closeSecond_lawful h b
      dsimp only
      split
      · exact closed
      · exact closed.of_view rfl
    · exact h

theorem takeSet_lawful {s : State} (h : AccumulatorLaw s) (c : CalibratedSet) : AccumulatorLaw (takeSet c s) := by
  unfold takeSet
  split
  · split
    · exact h.of_view rfl
    · exact closeWhenComplete_lawful (h.of_view rfl)
  · exact h

theorem takeSets_lawful (cs : List CalibratedSet) {s : State} (h : AccumulatorLaw s) :
    AccumulatorLaw (cs.foldl (fun t c => takeSet c t) s) := by
  induction cs generalizing s with
  | nil => exact h
  | cons c cs ih => exact ih (takeSet_lawful h c)

theorem releaseSets_lawful {s : State} (h : AccumulatorLaw s) : AccumulatorLaw (releaseSets s) :=
  takeSets_lawful _ (h.of_view rfl)

theorem stopMeasuring_view (s : State) : accumulatorView (stopMeasuring s) = accumulatorView s := by
  unfold stopMeasuring
  split <;> rfl

/-! ## Store states (R145 to R152) -/

/-- A save that has not begun writes no image. -/
theorem enterSaving_lawful {s : State} (h : AccumulatorLaw s) (c : SaveCause) :
    AccumulatorLaw (enterSaving c s) := by
  refine AccumulatorLaw.of_view ?_ (stopMeasuring_view _)
  exact h.mono rfl (fun _ k => k.imp_right fun k => k.imp_right fun k => nomatch k) fun _ k => k

theorem enterDormant_lawful {s : State} (h : AccumulatorLaw s) : AccumulatorLaw (enterDormant s) :=
  h.mono rfl (fun _ k => k.imp_right fun k => k.imp_right fun k => nomatch k) fun _ k => k

/-- The notice of a restore carries no image but the one in the nonvolatile store (R152, R153). -/
theorem noticeFor_image {r : Store} {i : SaveImage} (h : (noticeFor r).image = some i) : r.image = some i := by
  by_cases hk : restoreKind r = .warm
  · simpa [noticeFor, hk] using h
  · simp [noticeFor, hk] at h

theorem coldDurables_view (s : State) : accumulatorView (coldDurables s) = accumulatorView s := rfl

theorem enterRestoring_lawful {s : State} (h : AccumulatorLaw s) : AccumulatorLaw (enterRestoring s) := by
  have base : AccumulatorLaw (if (noticeFor s.store).kind = .cold then coldDurables s else s) :=
    h.of_view (ite_view (coldDurables_view s))
  refine base.mono rfl (fun i k => ?_) fun _ k => k
  have same : (if (noticeFor s.store).kind = .cold then coldDurables s else s).store.image = s.store.image := by
    split <;> rfl
  rcases k with k | k | k
  · exact .inl k
  · exact .inl (same.trans (noticeFor_image k))
  · exact nomatch k

/-- Without VDD the netting unit reads as after a COLD restore, and the store has the nonvolatile image alone. -/
theorem losePower_lawful {s : State} (h : AccumulatorLaw s) : AccumulatorLaw (losePower s) := by
  obtain ⟨-, images, -⟩ := h
  refine ⟨Accumulators.lawful_zero, fun i k => ?_, fun y k => ?_⟩
  · rcases k with k | k | k
    · exact images i (.inl k)
    · exact nomatch k
    · exact nomatch k
  · rcases k with k | k <;> exact nomatch k

theorem applyCut_view (c : PowerCut) (s : State) : accumulatorView (applyCut c s) = accumulatorView s := by
  obtain ⟨m, x, e⟩ := applyCut_shape c s
  rw [e]
  rfl

/-- A finished save has no image that was not there or being written (R146). -/
theorem finishSave_keeps {r : Store} {i : SaveImage} (h : (finishSave r).keeps i) : r.keeps i := by
  unfold finishSave at h
  split at h
  · next j hw =>
    rcases h with h | h | h
    · exact .inr (.inr (hw.trans (congrArg SaveWrite.image (Option.some.inj h))))
    · exact .inr (.inl h)
    · exact nomatch h
  · exact h.imp_right fun h => h.imp_right fun h => nomatch h

/-- A save that begins writes an image of the accumulators as they stand (R54, R146). -/
theorem saveBegun_lawful {s : State} (h : AccumulatorLaw s) :
    AccumulatorLaw { s with store := { s.store with image := none, write := .image (imageNow s) } } := by
  obtain ⟨accumulators, images, summaries⟩ := h
  refine ⟨accumulators, fun i k => ?_, summaries⟩
  rcases k with k | k | k
  · exact nomatch k
  · exact images i (.inr (.inl k))
  · exact SaveWrite.image.inj k ▸ accumulators

/-! ## Restores (R55, R153) -/

theorem restoredAccumulators_lawful {n : RestoreNotice}
    (h : ∀ i, n.image = some i → i.accumulators.lawful) : (restoredAccumulators n).lawful := by
  unfold restoredAccumulators
  split
  · cases hi : n.image with
    | none => exact Accumulators.lawful_zero
    | some i => exact h i hi
  all_goals exact Accumulators.lawful_zero

theorem restoreNetting_lawful {s : State} (h : AccumulatorLaw s) : AccumulatorLaw (restoreNetting s) := by
  obtain ⟨-, images, summaries⟩ := h
  refine ⟨restoredAccumulators_lawful fun i k => images i (.inr (.inl k)), images, fun y k => ?_⟩
  rcases k with k | k
  · exact summaries y (.inl k)
  · exact nomatch k

/-- A block's restore from the notice keeps the law when the block's own table does. -/
theorem takeNotice_lawful {s : State} (h : AccumulatorLaw s) (b : Block) {f : State → State}
    (hf : AccumulatorLaw (f s)) : AccumulatorLaw (takeNotice b f s) := by
  unfold takeNotice
  split
  · exact hf.of_view rfl
  · exact h

theorem restoreInterval_view (s : State) : accumulatorView (restoreInterval s) = accumulatorView s :=
  raiseIf_view _ _ _

theorem restoreEnvelope_view (s : State) : accumulatorView (restoreEnvelope s) = accumulatorView s :=
  raiseIf_view _ _ _

theorem finishRestore_view (s : State) : accumulatorView (finishRestore s) = accumulatorView s := by
  obtain ⟨o, a, l, f, e⟩ := finishRestore_shape s
  rw [e]
  rfl

/-! ## Owners' rules (R162 to R165) -/

theorem store_view {α : Type} {x : Option α} {put : α → State → State} {s : State}
    (h : ∀ a, accumulatorView (put a s) = accumulatorView s) :
    accumulatorView (store x put s).1 = accumulatorView s := by
  cases x with
  | none => rfl
  | some a => exact h a

/-- Of two outcomes that both keep the view, either does. -/
theorem ite_outcome_view {c : Prop} [Decidable c] {x y : Outcome} {s : State}
    (hx : accumulatorView x.1 = accumulatorView s) (hy : accumulatorView y.1 = accumulatorView s) :
    accumulatorView (if c then x else y).1 = accumulatorView s := by
  split
  · exact hx
  · exact hy

theorem loseClaim_view (p : Port) (s : State) : accumulatorView (loseClaim p s) = accumulatorView s := by
  unfold loseClaim
  exact ite_view (raiseFor_view _ _ _)

theorem writeClaim_view (p : Port) (w : Word) (s : State) :
    accumulatorView (writeClaim p w s).1 = accumulatorView s := by
  unfold writeClaim
  split
  · rfl
  · exact ite_outcome_view rfl (ite_outcome_view rfl (ite_outcome_view rfl rfl))

theorem takeClaimFrom_view (p : Port) (o : Option Port) (s : State) :
    accumulatorView (takeClaimFrom p o s) = accumulatorView s := by
  unfold takeClaimFrom
  split
  · split
    · rfl
    · exact raiseFor_view _ _ _
  · rfl

theorem exchangeClaim_view (p : Port) (expected new : Word) (s : State) :
    accumulatorView (exchangeClaim p expected new s).1 = accumulatorView s := by
  unfold exchangeClaim
  split
  · rfl
  · exact ite_outcome_view rfl (ite_outcome_view (takeClaimFrom_view p _ s) (ite_outcome_view rfl rfl))

theorem writePending_view (p : Port) (c : Option Schedule) (s : State) :
    accumulatorView (writePending p c s).1 = accumulatorView s :=
  ite_outcome_view (store_view fun _ => rfl) rfl

theorem writeScheduleEntry_view (p : Port) (w : Word) (s : State) :
    accumulatorView (writeScheduleEntry p w s).1 = accumulatorView s := by
  unfold writeScheduleEntry
  split
  · rfl
  · rfl
  · exact writePending_view p _ s

theorem setRight_view (row : Port) (x : Group) (r : Right) (s : State) :
    accumulatorView (setRight row x r s) = accumulatorView s := by
  unfold setRight
  dsimp only
  split
  · exact loseClaim_view row _
  · rfl

/-- No WRITE of an object bears on the accumulators (Table 11-1, R162). -/
theorem writeObject_view (p : Port) (o : Obj) (w : Word) (s : State) :
    accumulatorView (writeObject p o w s).1 = accumulatorView s := by
  cases o with
  | phasesInUse => exact store_view fun u => setPhasesInUse_view u s
  | configuredClass φ => exact store_view fun c => setConfiguredClass_view φ c s
  | gain φ x => exact store_view fun _ => rfl
  | basis => exact ite_outcome_view (store_view fun _ => rfl) rfl
  | claim => exact writeClaim_view p w s
  | scheduleEntry => exact writeScheduleEntry_view p w s
  | pendingItem i => exact writePending_view p _ s
  | intervalLength => exact store_view fun _ => rfl
  | activeLevel => exact store_view fun _ => rfl
  | freezeDay => exact ite_outcome_view rfl rfl
  | freezeOnActivation => exact store_view fun _ => rfl
  | divisor => exact ite_outcome_view rfl (store_view fun _ => rfl)
  | pulseSource => exact store_view fun _ => rfl
  | enable => exact store_view fun _ => rfl
  | right row x => exact ite_outcome_view (store_view fun r => setRight_view row x r s) rfl
  | _ => rfl

theorem presentValue_view (s : State) (p : Port) (o : Obj) :
    accumulatorView (presentValue s p o).1 = accumulatorView s := by
  unfold presentValue
  split <;> rfl

theorem exchangeObject_view (p : Port) (o : Obj) (expected new : Word) (s : State) :
    accumulatorView (exchangeObject p o expected new s).1 = accumulatorView s := by
  have present := presentValue_view s p o
  unfold exchangeObject
  split
  · exact exchangeClaim_view p expected new s
  · rfl
  · split
    · next s' c e => rw [e] at present; exact present
    · next s' w e =>
      rw [e] at present
      exact ite_outcome_view ((writeObject_view p o new s').trans present) present

theorem checkObject_view (p : Port) (o : Obj) (expected mask : Word) (s : State) :
    accumulatorView (checkObject p o expected mask s).1 = accumulatorView s := by
  have present := presentValue_view s p o
  unfold checkObject
  split
  all_goals
    next e => rw [e] at present; exact present

theorem modifyObject_view (p : Port) (o : Obj) (mask value : Word) (s : State) :
    accumulatorView (modifyObject p o mask value s).1 = accumulatorView s := by
  unfold modifyObject modifyEnable
  split
  · split <;> rfl
  · rfl

theorem readObjects_view (p : Port) (o : Obj) (k : Nat) (s : State) :
    accumulatorView (readObjects p o k s).1 = accumulatorView s :=
  ite_view rfl

theorem commandLinkRestart_view (w : Word) (s : State) :
    accumulatorView (commandLinkRestart w s).1 = accumulatorView s := by
  unfold commandLinkRestart
  split
  · rfl
  · exact ite_outcome_view (changeLink_view _ .down s) rfl

theorem commandArm_view (p : Port) (day minute : Word) (s : State) :
    accumulatorView (commandArm p day minute s).1 = accumulatorView s := by
  unfold commandArm
  refine ite_outcome_view rfl (ite_outcome_view rfl ?_)
  split <;> rfl

theorem commandReadNext_view (p : Port) (s : State) :
    accumulatorView (commandReadNext p s).1 = accumulatorView s := by
  unfold commandReadNext
  dsimp only
  split
  · split <;> rfl
  · rfl

theorem commandTestOn_view (p : Port) (s : State) : accumulatorView (commandTestOn p s).1 = accumulatorView s :=
  ite_outcome_view (ite_outcome_view rfl (raise_view _ _)) rfl

/-- Of the commands only TOTALS CLEAR, RESTART and CLEAR ALL bear on the accumulators or the save (R165). -/
theorem commandObject_lawful (p : Port) (o : Obj) (a b : Word) {s : State} (h : AccumulatorLaw s) :
    AccumulatorLaw (commandObject p o a b s).1 := by
  cases o with
  | totalsClear => exact clearTotals_lawful h
  | restart =>
    simp only [commandObject, commandRestart]
    split
    · exact enterSaving_lawful h .restart
    · exact h
  | clearAll =>
    simp only [commandObject, commandClearAll]
    split
    · exact enterSaving_lawful h .clearAll
    · exact h
  | linkRestart => exact h.of_view (commandLinkRestart_view a s)
  | arm => exact h.of_view (commandArm_view p a b s)
  | disarm => exact h.of_view (ite_outcome_view rfl rfl)
  | discard => exact h.of_view (ite_outcome_view rfl rfl)
  | timeSet => exact h.of_view (ite_outcome_view rfl rfl)
  | timeAdjust => exact h.of_view (ite_outcome_view (store_view fun _ => rfl) rfl)
  | setTerm => exact h.of_view (ite_outcome_view rfl rfl)
  | startAt => exact h.of_view (store_view fun _ => rfl)
  | readNext => exact h.of_view (commandReadNext_view p s)
  | freeze => exact h.of_view (ite_outcome_view rfl rfl)
  | testOn => exact h.of_view (commandTestOn_view p s)
  | testOff => exact h.of_view (ite_outcome_view (endTest_view .command s) rfl)
  | logClear => exact h.of_view (ite_outcome_view (ite_outcome_view rfl rfl) rfl)
  | _ => exact h.of_view rfl

/-! ## The request engine (R156 to R160) -/

theorem ownerActs_lawful (p : Port) (k : Kind) (o : Obj) (r : Request) {s : State} (h : AccumulatorLaw s) :
    AccumulatorLaw (ownerActs p k o r s).1 := by
  cases k with
  | read => exact h.of_view (readObjects_view p o _ s)
  | write => exact h.of_view (writeObject_view p o _ s)
  | modify => exact h.of_view (modifyObject_view p o _ _ s)
  | check => exact h.of_view (checkObject_view p o _ _ s)
  | exchange => exact h.of_view (exchangeObject_view p o _ _ s)
  | select => exact h.of_view (store_view fun _ => rfl)
  | command => exact commandObject_lawful p o _ _ h

theorem executeOn_lawful (p : Port) (k : Kind) (o : Obj) (r : Request) {s : State} (h : AccumulatorLaw s) :
    AccumulatorLaw (executeOn p k o r s).1 := by
  unfold executeOn
  split
  · exact h
  · split
    · exact h
    · split
      · exact h
      · exact ownerActs_lawful p k o r h

theorem executeRequest_lawful (p : Port) (r : Request) {s : State} (h : AccumulatorLaw s) :
    AccumulatorLaw (executeRequest p r s).1 := by
  unfold executeRequest
  split
  · exact h
  · split
    · exact h
    · split
      · exact h
      · exact executeOn_lawful p _ _ r h

theorem serve_lawful (p : Port) (r : Request) (rest : List Request) {s : State} (h : AccumulatorLaw s) :
    AccumulatorLaw (serve p r rest s) :=
  (executeRequest_lawful p r (h.of_view (t := beginServing p rest s) rfl)).of_view rfl

theorem arbitrate_lawful {s : State} (h : AccumulatorLaw s) : AccumulatorLaw (arbitrate s) := by
  unfold arbitrate
  split
  · split
    · exact h
    · split
      · exact h
      · exact serve_lawful _ _ _ h
  · exact h

theorem submit_lawful (p : Port) (r : Request) {s : State} (h : AccumulatorLaw s) :
    AccumulatorLaw (submit p r s) := by
  have heard : AccumulatorLaw (setFrontEnd p .hunt s) := h.of_view rfl
  unfold submit enqueue
  split
  · split
    · exact arbitrate_lawful (heard.of_view rfl)
    · split
      · exact heard
      · exact heard.of_view rfl
  · exact h

theorem openEnable_view (s : State) : accumulatorView (openEnable s) = accumulatorView s := by
  unfold openEnable
  dsimp only
  split
  · exact (loseClaim_view _ _).trans (endTest_view _ s)
  · exact endTest_view _ s

theorem changeCalen_view (closed : Bool) (s : State) :
    accumulatorView (changeCalen closed s) = accumulatorView s := by
  unfold changeCalen
  dsimp only
  split
  · rfl
  · split
    · split
      · exact raise_view _ _
      · exact (openEnable_view _).trans (raise_view _ _)
    · rfl

/-! ## The commands -/

/-- A command leaves a state in which the law holds. -/
def LawAfter : StepResult → Prop
  | .next t => AccumulatorLaw t
  | .fault _ | .refused _ => True

theorem lawAfter_next {t : State} (h : AccumulatorLaw t) : LawAfter (.next t) := h

theorem execSampleSetTake_lawful {s : State} (h : AccumulatorLaw s) : LawAfter (execSampleSetTake s) := by
  refine lawAfter_next ?_
  split
  · exact h
  · refine takeSet_lawful ?_ _
    exact h.of_view rfl

theorem execBoundaryNotice_lawful {s : State} (h : AccumulatorLaw s) : LawAfter (execBoundaryNotice s) := by
  refine lawAfter_next ?_
  split
  · exact h
  · next b bs _ =>
    have closed : AccumulatorLaw (closeWhenComplete { s with
        metrology := { s.metrology with notices := s.metrology.notices ++ [b] }
        wires := { s.wires with notices := bs } }) := closeWhenComplete_lawful (h.of_view rfl)
    dsimp only
    split
    · exact releaseSets_lawful closed
    · exact closed

theorem execNettingSummaryArrival_lawful {s : State} (h : AccumulatorLaw s) :
    LawAfter (execNettingSummaryArrival s) := by
  refine lawAfter_next ?_
  split
  · exact h
  · next y ys hl =>
    have rest : AccumulatorLaw { s with wires := { s.wires with toNetting := ys } } :=
      h.mono rfl (fun _ k => k) fun z hz => hz.imp_left fun hz => hl ▸ List.mem_cons_of_mem y hz
    exact nettingSummary_lawful rest (h.summary (.inl (hl ▸ List.mem_cons_self)))

theorem execDispatchAcknowledgment_lawful {s : State} (h : AccumulatorLaw s) :
    LawAfter (execDispatchAcknowledgment s) := by
  refine lawAfter_next ?_
  split
  · exact h
  · refine takeAcknowledgment_lawful ?_ _
    exact h.of_view rfl

theorem execTariffDispatch_lawful {s : State} (h : AccumulatorLaw s) : LawAfter (execTariffDispatch s) := by
  refine lawAfter_next ?_
  split
  · exact h
  · exact h.of_view (takeTariffDispatch_view _ _)

theorem execIntervalSummaryArrival_lawful {s : State} (h : AccumulatorLaw s) :
    LawAfter (execIntervalSummaryArrival s) := by
  refine lawAfter_next ?_
  split
  · exact h
  · exact h.of_view (joinSecond_view _)

theorem execEnvelopeStatusArrival_lawful {s : State} (h : AccumulatorLaw s) :
    LawAfter (execEnvelopeStatusArrival s) := by
  refine lawAfter_next ?_
  split
  · exact h
  · exact h.of_view (joinSecond_view _)

theorem execIntervalDispatchArrival_lawful {s : State} (h : AccumulatorLaw s) :
    LawAfter (execIntervalDispatchArrival s) := by
  refine lawAfter_next ?_
  split
  · exact h
  · split
    · exact h
    · exact h.of_view (joinSecond_view _)

theorem execPulseHandOff_lawful {s : State} (h : AccumulatorLaw s) : LawAfter (execPulseHandOff s) := by
  refine lawAfter_next ?_
  split
  · exact h
  · exact h.of_view (ite_view rfl)

theorem execRecordIntake_lawful {s : State} (h : AccumulatorLaw s) : LawAfter (execRecordIntake s) := by
  refine lawAfter_next ?_
  split
  · exact h
  · split
    · exact h
    · exact h.of_view (takeRecord_view _ _)

theorem execCommitComplete_lawful {s : State} (h : AccumulatorLaw s) : LawAfter (execCommitComplete s) := by
  refine lawAfter_next ?_
  split
  · exact h
  · exact h.of_view rfl

theorem execCheckpointNotice_lawful {s : State} (h : AccumulatorLaw s) : LawAfter (execCheckpointNotice s) := by
  refine lawAfter_next ?_
  split
  · exact h
  · dsimp only
    split
    · exact h.of_view rfl
    · obtain ⟨image, notice, write⟩ := beginCopy_images (checkpointOf s) s.store
      exact h.of_view (by simp only [accumulatorView, image, notice, write])

theorem execCheckpointWriteEnd_lawful {s : State} (h : AccumulatorLaw s) :
    LawAfter (execCheckpointWriteEnd s) := by
  obtain ⟨image, notice, write⟩ := endCopy_images s.store
  exact lawAfter_next (h.of_view (by simp only [accumulatorView, image, notice, write]))

theorem execSupokFall_lawful {s : State} (h : AccumulatorLaw s) : LawAfter (execSupokFall s) := by
  have fallen : AccumulatorLaw { s with store := { s.store with supok := false } } := h.of_view rfl
  refine lawAfter_next ?_
  split
  · exact enterSaving_lawful fallen .supply
  · exact fallen

theorem execSupokRise_lawful {s : State} (h : AccumulatorLaw s) : LawAfter (execSupokRise s) := by
  have risen : AccumulatorLaw { s with store := { s.store with supok := true } } := h.of_view rfl
  refine lawAfter_next ?_
  split
  · exact enterRestoring_lawful risen
  · exact risen

theorem execSaveStart_lawful {s : State} (h : AccumulatorLaw s) : LawAfter (execSaveStart s) := by
  refine lawAfter_next ?_
  split
  · split
    · exact h.mono rfl (fun _ k => k.imp_right fun k => k.imp_right fun k => nomatch k) fun _ k => k
    · exact saveBegun_lawful h
  · exact h

theorem execSaveComplete_lawful {s : State} (h : AccumulatorLaw s) : LawAfter (execSaveComplete s) := by
  have finished : AccumulatorLaw { s with store := finishSave s.store } :=
    h.mono rfl (fun _ k => finishSave_keeps k) fun _ k => k
  refine lawAfter_next ?_
  split
  · dsimp only
    split
    · exact enterRestoring_lawful finished
    · exact enterDormant_lawful finished
  · exact h

theorem execPowerUp_lawful (supokHigh : Bool) {s : State} (h : AccumulatorLaw s) :
    LawAfter (execPowerUp supokHigh s) := by
  have dormant : AccumulatorLaw
      (enterDormant { s with store := { s.store with supok := supokHigh, cause := .supply } }) :=
    enterDormant_lawful (h.of_view rfl)
  refine lawAfter_next ?_
  split
  · dsimp only
    split
    · exact enterRestoring_lawful dormant
    · exact dormant
  · exact h

theorem execSaveDefeated_lawful (c : PowerCut) {s : State} (h : AccumulatorLaw s) :
    LawAfter (execSaveDefeated c s) := by
  refine lawAfter_next ?_
  split
  · exact losePower_lawful (h.of_view (applyCut_view c s))
  · exact h

theorem execVddLoss_lawful {s : State} (h : AccumulatorLaw s) : LawAfter (execVddLoss s) := by
  refine lawAfter_next ?_
  split
  · exact losePower_lawful h
  · exact h

theorem execBackupDomainLoss_lawful {s : State} (h : AccumulatorLaw s) : LawAfter (execBackupDomainLoss s) := by
  have lost : AccumulatorLaw (if s.store.state = .unpowered then s else losePower s) := by
    split
    · exact h
    · exact losePower_lawful h
  exact lawAfter_next (lost.of_view rfl)

theorem execIntervalRestore_lawful {s : State} (h : AccumulatorLaw s) : LawAfter (execIntervalRestore s) := by
  refine lawAfter_next ?_
  split
  · exact h
  · exact takeNotice_lawful h _ (h.of_view (restoreInterval_view s))

theorem execRestoreComplete_lawful {s : State} (h : AccumulatorLaw s) : LawAfter (execRestoreComplete s) := by
  have finished : AccumulatorLaw (finishRestore s) := h.of_view (finishRestore_view s)
  obtain ⟨-, -, -, e⟩ | ⟨-, e⟩ := execRestoreComplete_cases s
  · rw [e]
    refine lawAfter_next ?_
    split
    · exact finished.of_view rfl
    · exact enterSaving_lawful finished .supply
  · rw [e]
    exact lawAfter_next h

theorem execRequestFrame_lawful (p : Port) (body : List Byte) (check : BitVec 16) {s : State}
    (h : AccumulatorLaw s) : LawAfter (execRequestFrame p body check s) := by
  refine lawAfter_next ?_
  split
  · split
    · exact submit_lawful p _ h
    · exact h.of_view rfl
  · exact h

theorem execAnswerSent_lawful {s : State} (h : AccumulatorLaw s) : LawAfter (execAnswerSent s) := by
  refine lawAfter_next ?_
  split
  · exact h
  · split
    · exact arbitrate_lawful (h.of_view rfl)
    · exact h

theorem execFullAnswerSent_lawful (p : Port) {s : State} (h : AccumulatorLaw s) :
    LawAfter (execFullAnswerSent p s) := by
  refine lawAfter_next ?_
  split
  · exact h.of_view rfl
  · exact h

/-- A command that is a request arrives as one (R156). -/
theorem exec_request_lawful {c : Instr} {f : Sender} (hf : requestSender c = some f) {s : State}
    (h : AccumulatorLaw s) : LawAfter (exec c s) := by
  obtain ⟨r, -, e⟩ := exec_request hf
  rw [e]
  exact lawAfter_next (submit_lawful f.port r h)

/-- Every event of the part keeps the law. -/
theorem exec_event_lawful {c : Instr} (hc : requestSender c = none) {s : State} (h : AccumulatorLaw s) :
    LawAfter (exec c s) := by
  cases c with
  | strobeIssue | identifyCountdownExpiry | missingRunExpiry | substitutionRunExpiry | secondBoundary
  | testTimerExpiry => exact lawAfter_next (h.of_view (ite_view (issueStrobe_view s)))
  | upstreamFrame φ bytes => exact lawAfter_next (h.of_view (receiveFrame_view φ bytes s))
  | sampleSetTake => exact execSampleSetTake_lawful h
  | boundaryNotice => exact execBoundaryNotice_lawful h
  | nettingSummaryArrival => exact execNettingSummaryArrival_lawful h
  | dispatchAcknowledgment => exact execDispatchAcknowledgment_lawful h
  | tariffDispatch => exact execTariffDispatch_lawful h
  | intervalSummaryArrival => exact execIntervalSummaryArrival_lawful h
  | envelopeStatusArrival => exact execEnvelopeStatusArrival_lawful h
  | intervalDispatchArrival => exact execIntervalDispatchArrival_lawful h
  | envelopeSummaryArrival => exact lawAfter_next (h.of_view (envelopeSummary_view s))
  | termLapse | graceExpiry | holdExpiry => exact lawAfter_next (h.of_view (ite_view (envelopeSummary_view s)))
  | pulseHandOff => exact execPulseHandOff_lawful h
  | activePeriodEnd => exact lawAfter_next (h.of_view (ite_view rfl))
  | gapPeriodEnd => exact lawAfter_next (h.of_view (ite_view (ite_view rfl)))
  | recordIntake => exact execRecordIntake_lawful h
  | commitComplete => exact execCommitComplete_lawful h
  | checkpointNotice => exact execCheckpointNotice_lawful h
  | checkpointWriteEnd => exact execCheckpointWriteEnd_lawful h
  | supokFall => exact execSupokFall_lawful h
  | supokRise => exact execSupokRise_lawful h
  | saveStart => exact execSaveStart_lawful h
  | saveComplete => exact execSaveComplete_lawful h
  | powerUp supokHigh => exact execPowerUp_lawful supokHigh h
  | saveDefeated cut => exact execSaveDefeated_lawful cut h
  | vddLoss => exact execVddLoss_lawful h
  | backupDomainLoss => exact execBackupDomainLoss_lawful h
  | backupClockTick =>
    refine lawAfter_next ?_
    split
    · exact h
    · exact h.of_view rfl
  | nettingRestore => exact lawAfter_next (takeNotice_lawful h _ (restoreNetting_lawful h))
  | envelopeRestore => exact lawAfter_next (takeNotice_lawful h _ (h.of_view (restoreEnvelope_view s)))
  | intervalRestore => exact execIntervalRestore_lawful h
  | assemblyRestore | metrologyRestore | timeBaseRestore | tariffRestore | logRestore | pulseRestore
  | engineRestore => exact lawAfter_next (takeNotice_lawful h _ (h.of_view rfl))
  | restoreComplete => exact execRestoreComplete_lawful h
  | calenChange closed => exact lawAfter_next (h.of_view (changeCalen_view closed s))
  | requestFrame p body check => exact execRequestFrame_lawful p body check h
  | frameStart | frameGap | frameLengthReject => exact lawAfter_next (h.of_view (ite_view rfl))
  | answerSent => exact execAnswerSent_lawful h
  | fullAnswerSent p => exact execFullAnswerSent_lawful p h
  | _ => exact nomatch hc

/-- The law holds after every command in a state in which it holds. -/
theorem exec_lawful (c : Instr) {s : State} (h : AccumulatorLaw s) : LawAfter (exec c s) := by
  cases hf : requestSender c with
  | some f => exact exec_request_lawful hf h
  | none => exact exec_event_lawful hf h

/-- The law holds after reset, so the step lemma speaks of every state that a run reaches (R55, Table 3-5). -/
theorem accumulatorLaw_reset : AccumulatorLaw State.reset := by
  refine ⟨Accumulators.lawful_zero, fun i k => ?_, fun y k => ?_⟩
  · rcases k with k | k | k <;> exact nomatch k
  · rcases k with k | k <;> exact nomatch k

theorem step_lawful {s t : State} (h : AccumulatorLaw s) (e : step s = .next t) : AccumulatorLaw t := by
  have after : LawAfter (step s) := by
    unfold step
    split
    · exact lawAfter_next h
    · exact exec_lawful _ (h.of_view rfl)
  rwa [e] at after

/-- Settles O56: every command keeps the law, and in a lawful state the four accumulators are less than 4 Q apart. -/
theorem accumulatorsKept : Obligations.AccumulatorsKept := by
  refine ⟨fun s t => step_lawful, fun s h => ?_⟩
  obtain ⟨accumulators, -, -⟩ := h
  exact accumulators.multiple

end Sys2Proof.Machine
end

section
/-! PROOF. Command freezes (R91): what FREEZE answers at a ready part, and how a pending command freeze passes through
the three stages of a dispatch. -/

namespace Sys2Proof.Machine

/-! ## The FREEZE command -/

/-- A ready part that serves a sender's request forms the answer and leaves the state `served` describes. -/
theorem answered_begun (f : Sender) (reply : Reply) (s : State) :
    answered f (begun f.port s, reply) = served f reply s := by
  refine (formAnswer_begun f reply (begun f.port s) (PerPort.set_set ..).symm rfl rfl).trans ?_
  simp only [served, begun, PerPort.set_set]

/-- FREEZE without WRITE on its group is refused (R160, stage 5). -/
theorem exec_freeze_denied {s : State} {f : Sender} (h : Ready s) (hw : ¬ MayWrite s f.port .freeze) :
    exec (.freeze f) s = .next (served f (plainReply .denied) s) := by
  have hr : allowed s.engine f.port .command .freeze = false := by
    simpa [allowed, writes, Obj.isContextCommand, MayWrite] using hw
  exact (arrival_denied h .command [] rfl rfl hr).trans (congrArg _ (answered_begun f _ s))

/-- FREEZE with WRITE on its group reaches the tariff unit (R91, R160). -/
theorem exec_freeze_allowed {s : State} {f : Sender} (h : Ready s) (hw : MayWrite s f.port .freeze) :
    exec (.freeze f) s = .next (answered f (commandFreeze (begun f.port s))) :=
  arrival_command h [] rfl rfl rfl hw

/-- In TEST, or behind another command freeze, a FREEZE is BUSY (R91). -/
theorem commandFreeze_busy {s : State} (h : s.pulse.test = true ∨ s.tariff.pendingFreeze ≠ none) :
    commandFreeze s = refuse .busy s :=
  if_pos (h.imp_right Option.isSome_iff_ne_none.mpr)

/-- Otherwise it is announced with the next freeze number (R91). -/
theorem commandFreeze_announces {s : State} (ht : s.pulse.test = false) (hp : s.tariff.pendingFreeze = none) :
    commandFreeze s = (onTariff announceFreeze s, doneWith [natWord s.tariff.nextFreeze]) :=
  if_neg (by simp [ht, hp])

/-! ## Freezes in a dispatch -/

@[simp] theorem fileDispatch_pendingFreeze (d : Dispatch) (u : Tariff) :
    (fileDispatch d u).pendingFreeze = u.pendingFreeze := by unfold fileDispatch; split <;> rfl

@[simp] theorem fileDispatch_nextFreeze (d : Dispatch) (u : Tariff) :
    (fileDispatch d u).nextFreeze = u.nextFreeze := by unfold fileDispatch; split <;> rfl

/-- The record that a freeze puts in the list (R90). -/
def freezeRecordOf (number : Nat) (cause : FreezeCause) (day : Option Nat) (time : Stamp) (s : State) : FreezeRecord :=
  ⟨number, time, cause, day, s.tariff.registers, s.netting.totals.sumImport, s.netting.totals.sumExport⟩

/-- Of the tariff unit a freeze changes the list alone (R90). -/
theorem takeFreeze_tariff (n : Nat) (c : FreezeCause) (day : Option Nat) (t : Stamp) (s : State) :
    (takeFreeze n c day t s).tariff =
      { s.tariff with freezes := (freezeRecordOf n c day t s :: s.tariff.freezes).take freezeListLimit } :=
  raise_tariff _ _

theorem takeNumberedFreeze_tariff (c : FreezeCause) (day : Option Nat) (t : Stamp) (s : State) :
    (takeNumberedFreeze c day t s).tariff = { s.tariff with
      freezes := (freezeRecordOf s.tariff.nextFreeze c day t s :: s.tariff.freezes).take freezeListLimit
      nextFreeze := followingNumber s.tariff.nextFreeze } := by
  simp [takeNumberedFreeze, takeFreeze_tariff]

theorem takeCommandFreeze_tariff {d : Dispatch} {s : State} {n : Nat} (h : s.tariff.pendingFreeze = some n) :
    (takeCommandFreeze d s).tariff = { s.tariff with
      freezes := (freezeRecordOf n .command none d.finish s :: s.tariff.freezes).take freezeListLimit
      pendingFreeze := none } := by
  simp [takeCommandFreeze, h, takeFreeze_tariff]

@[simp] theorem takeCommandFreeze_nextFreeze (d : Dispatch) (s : State) :
    (takeCommandFreeze d s).tariff.nextFreeze = s.tariff.nextFreeze := by
  unfold takeCommandFreeze
  split
  · simp [takeFreeze_tariff]
  · rfl

/-- No command freeze is pending, and the list holds the COMMAND record of `number` taken at `time`, behind at most
`depth` later records, of which a scheduled one has the number `next` (R91). -/
structure CommandFrozen (number next : Nat) (time : Stamp) (depth : Nat) (u : Tariff) : Prop where
  settled : u.pendingFreeze = none
  listed : ∃ newer older r, u.freezes = newer ++ r :: older ∧ r.number = number ∧ r.cause = .command ∧
    r.time = time ∧ r.registers = u.registers ∧ newer.length ≤ depth ∧
    ∀ x ∈ newer, x.cause ≠ .command ∧ (x.cause = .scheduled → x.number = next)

section
variable {number next depth : Nat} {time : Stamp} {d : Dispatch} {s : State}

/-- Only the pending command freeze, the list and the registers matter. -/
theorem CommandFrozen.of_eq {u v : Tariff} (h : CommandFrozen number next time depth u)
    (hp : v.pendingFreeze = u.pendingFreeze) (hf : v.freezes = u.freezes) (hr : v.registers = u.registers) :
    CommandFrozen number next time depth v := by
  obtain ⟨settled, listed⟩ := h
  exact ⟨hp.trans settled, by rwa [hf, hr]⟩

theorem CommandFrozen.deeper {u : Tariff} (h : CommandFrozen number next time depth u) :
    CommandFrozen number next time (depth + 1) u := by
  obtain ⟨settled, newer, older, r, split, num, cause, taken, regs, short, later⟩ := h
  exact ⟨settled, newer, older, r, split, num, cause, taken, regs, Nat.le_succ_of_le short, later⟩

/-- The stage of the command freeze puts its record at the front (R91). -/
theorem takeCommandFreeze_frozen (h : s.tariff.pendingFreeze = some number) :
    CommandFrozen number next d.finish 0 (takeCommandFreeze d s).tariff := by
  rw [takeCommandFreeze_tariff h]
  exact ⟨rfl, [], _, freezeRecordOf number .command none d.finish s, rfl, rfl, rfl, rfl, rfl, le_rfl, by simp⟩

/-- A later freeze of the dispatch goes before the COMMAND record, which stays held while there is room (R90). -/
theorem takeNumberedFreeze_frozen {c : FreezeCause} {day : Option Nat} {t : Stamp}
    (h : CommandFrozen number next time depth s.tariff) (hroom : depth + 2 ≤ freezeListLimit)
    (hc : c ≠ .command) (hn : c = .scheduled → s.tariff.nextFreeze = next) :
    CommandFrozen number next time (depth + 1) (takeNumberedFreeze c day t s).tariff := by
  obtain ⟨settled, newer, older, r, split, num, cause, taken, regs, short, later⟩ := h
  rw [takeNumberedFreeze_tariff]
  obtain ⟨left, hleft⟩ : ∃ left, freezeListLimit = (newer.length + (left + 1)) + 1 :=
    ⟨freezeListLimit - newer.length - 2, by omega⟩
  refine ⟨settled, freezeRecordOf s.tariff.nextFreeze c day t s :: newer, older.take left, r, ?_, num, cause, taken,
    regs, Nat.succ_le_succ short, ?_⟩
  · simp [split, hleft, List.take_append]
  · rintro x (_ | ⟨_, hx⟩)
    · exact ⟨hc, hn⟩
    · exact later x hx

/-- The stage of the scheduled freeze adds at most one record, of the next number (R93). -/
theorem takeScheduledFreeze_frozen (h : CommandFrozen number next time 0 s.tariff) (hn : s.tariff.nextFreeze = next) :
    CommandFrozen number next time 1 (takeScheduledFreeze d s).tariff := by
  unfold takeScheduledFreeze
  split
  · split
    · exact (takeNumberedFreeze_frozen (c := .scheduled) h (by decide) nofun fun _ => hn).of_eq rfl rfl rfl
    · exact h.deeper.of_eq rfl rfl rfl
  · exact h.deeper

/-- The stage of the activation adds at most one record, which is no scheduled one (R89, R94). -/
theorem activateSchedule_frozen (h : CommandFrozen number next time 1 s.tariff) :
    CommandFrozen number next time 2 (activateSchedule d s).tariff := by
  unfold activateSchedule
  split
  · rw [raise_tariff]
    split
    · exact (takeNumberedFreeze_frozen (c := .activation) h (by decide) nofun nofun).of_eq rfl rfl rfl
    · exact h.deeper.of_eq rfl rfl rfl
  · exact h.deeper

/-- A dispatch settles the pending command freeze, whatever else it brings (R77, R91). -/
theorem takeTariffDispatch_frozen (h : s.tariff.pendingFreeze = some number) :
    CommandFrozen number s.tariff.nextFreeze d.finish 2 (takeTariffDispatch d s).tariff := by
  have pending : (fileDispatch d s.tariff).pendingFreeze = some number := by rw [fileDispatch_pendingFreeze, h]
  have command := takeCommandFreeze_frozen (next := s.tariff.nextFreeze) (d := d)
    (s := { s with tariff := fileDispatch d s.tariff }) pending
  exact activateSchedule_frozen (takeScheduledFreeze_frozen command (by simp))

/-- TARIFF_DISPATCH takes the oldest dispatch on its way (R77). -/
theorem exec_tariffDispatch {ds : List Dispatch} (h : s.wires.toTariff = d :: ds) :
    exec .tariffDispatch s = .next (takeTariffDispatch d { s with wires := { s.wires with toTariff := ds } }) := by
  change execTariffDispatch s = _
  simp only [execTariffDispatch, h]

end

/-- Settles O12: the command is decided at the tariff unit, and the dispatch's stages keep the COMMAND record. -/
theorem freezeAnnounces : Obligations.FreezeAnnounces := by
  refine fun f s => ⟨exec_freeze_denied, fun hs hw hb => ?busy, fun hs hw ht hp => ?free, fun n d ds hp hd => ?taken⟩
  case busy =>
    rw [exec_freeze_allowed hs hw, commandFreeze_busy (s := begun f.port s) hb]
    exact congrArg _ (answered_begun f _ s)
  case free =>
    rw [exec_freeze_allowed hs hw, commandFreeze_announces (s := begun f.port s) ht hp]
    exact congrArg _ (answered_begun f _ (onTariff announceFreeze s))
  case taken =>
    obtain ⟨settled, listed⟩ := takeTariffDispatch_frozen (d := d)
      (s := { s with wires := { s.wires with toTariff := ds } }) hp
    exact ⟨_, exec_tariffDispatch hd, settled, listed⟩

end Sys2Proof.Machine
end

section
/-! PROOF. What a step keeps, in one pass: the log's records, the Wh counts, the settings, the attention lines, the curtail
line, the pending count, the claim, and the engine's bookkeeping. -/

namespace Sys2Proof.Machine

/-! ## The laws, block by block -/

/-- A configured class is one of the four (R8). -/
def Link.classLegal (l : Link) : Prop := 1 ≤ l.configuredClass ∧ l.configuredClass ≤ 4

def Assembly.legal (a : Assembly) : Prop := ∀ φ, (a.links.get φ).classLegal

def Metrology.legal (m : Metrology) : Prop := (∀ φ, (m.calibration.get φ).legal) ∧ m.creepThreshold ≤ 500

/-- The interval lengths allowed (R66). -/
def lengthLegal (m : Nat) : Prop := m ∈ [5, 10, 15, 30, 60]

def IntervalUnit.legal (u : IntervalUnit) : Prop :=
  lengthLegal u.length ∧ ∀ m, u.pendingLength = some m → lengthLegal m

def Envelope.legal (e : Envelope) : Prop :=
  e.fallback.legal ∧ e.site.legal ∧ (1 ≤ e.grace ∧ e.grace ≤ 60) ∧ e.band ≤ 5000 ∧ (1 ≤ e.hold ∧ e.hold ≤ 600)

def Pulse.legal (u : Pulse) : Prop :=
  (2 ≤ u.activeWidth ∧ u.activeWidth ≤ 500) ∧ (2 ≤ u.gapWidth ∧ u.gapWidth ≤ 500) ∧
    (1 ≤ u.timeout ∧ u.timeout ≤ 240) ∧ u.divisor ∈ [1, 10, 100, 1000]

theorem settingsLegal_iff (s : State) : SettingsLegal s ↔
    s.assembly.legal ∧ s.metrology.legal ∧ s.interval.legal ∧ s.tariff.freezeDay ≤ 28 ∧ s.envelope.legal ∧
      s.pulse.legal := by
  constructor
  · rintro ⟨phases, creep, length, pending, day, fallback, site, grace, band, hold, pulse⟩
    exact ⟨fun φ => (phases φ).2, ⟨fun φ => (phases φ).1, creep⟩, ⟨length, pending⟩, day,
      ⟨fallback, site, grace, band, hold⟩, pulse⟩
  · rintro ⟨links, ⟨calibration, creep⟩, ⟨length, pending⟩, day, ⟨fallback, site, grace, band, hold⟩, pulse⟩
    exact ⟨fun φ => ⟨calibration φ, links φ⟩, creep, length, pending, day, fallback, site, grace, band, hold, pulse⟩

/-- The records of a log are lawful (R100, R101). -/
def Log.lawful (l : Log) : Prop :=
  recordsLawful l.records l.next ∧ l.committed.lawful ∧ ∀ e ∈ l.queue, (entryImage e).lawful

/-- The test counters are counts of Wh (R138). -/
def Pulse.bounded (u : Pulse) : Prop := u.testImport < 1000000000 ∧ u.testExport < 1000000000

def Envelope.lineFollows (e : Envelope) : Prop := e.line = lineActive e.monitor

def Tariff.claimEdits (u : Tariff) : Prop := u.claim ≠ none → u.pendingState = .editing

/-- What the engine's law says of each port, while some executed requests still owe their answer (R157, R158). -/
def PortsOwe (owed : Port → Nat) (s : State) : Prop :=
  ∀ p, (s.engine.queues.get p).length ≤ 3 ∧ fullAnswers s p ≤ 1 ∧
    executedAnswers s p + owed p = if s.engine.state = .sending p then 1 else 0

/-- The engine's law while some executed requests still owe their answer: none between commands, and that of the port
served while its request executes (R159). -/
def EngineOwes (owed : Port → Nat) (s : State) : Prop :=
  PortsOwe owed s ∧ (s.engine.state = .idle ∨ s.store.state ≠ .running → s.engine.queues = .all [])

/-- No answer is owed between two commands. -/
def nothingOwed : Port → Nat := fun _ => 0

/-! ## Keeping every law -/

/-- From one state to another every law but the engine's carries over, and the commands that wait are the same. -/
structure KeepsBlocks (s t : State) : Prop where
  pending : t.pending = s.pending
  log : LogLaw s → LogLaw t
  counts : WhBounded s → WhBounded t
  settings : SettingsLegal s → SettingsLegal t
  lines : LinesAgree s → LinesAgree t
  curtail : LineFollowsMonitor s → LineFollowsMonitor t
  pulses : PulsesBounded s → PulsesBounded t
  claim : ClaimEdits s → ClaimEdits t

/-- The engine at a port whose request executes (R159). -/
def Serving (p : Port) (s : State) : Prop := s.engine.state = .sending p ∧ s.engine.pointer = p

/-- No frame half received at a port, and no request waiting anywhere (R156, R157). -/
def Quiet (p : Port) (s : State) : Prop := s.engine.frontEnds.get p = .hunt ∧ s.engine.queues = .all []

/-- From one state to another the engine stays at a port, and what is quiet stays quiet. -/
structure Stays (p : Port) (s t : State) : Prop where
  serving : Serving p s → Serving p t
  quiet : Quiet p s → Quiet p t

/-- From one state to another every law carries over, and the engine stays at a port that is owed an answer. -/
structure Keeps (owed : Port → Nat) (s t : State) : Prop extends KeepsBlocks s t where
  engine : EngineOwes owed s → EngineOwes owed t
  stays : ∀ p, 0 < owed p → Stays p s t

variable {owed : Port → Nat} {s t u : State}

theorem KeepsBlocks.refl (s : State) : KeepsBlocks s s := ⟨rfl, id, id, id, id, id, id, id⟩

theorem KeepsBlocks.trans (h : KeepsBlocks s t) (k : KeepsBlocks t u) : KeepsBlocks s u :=
  ⟨k.pending.trans h.pending, k.log ∘ h.log, k.counts ∘ h.counts,
    k.settings ∘ h.settings, k.lines ∘ h.lines, k.curtail ∘ h.curtail,
    k.pulses ∘ h.pulses, k.claim ∘ h.claim⟩

/-- Where no answer is owed the engine serves no port. -/
theorem stays_free (p : Port) (owes : 0 < nothingOwed p) : Stays p s t := absurd owes (lt_irrefl 0)

theorem Keeps.refl (s : State) : Keeps owed s s := ⟨.refl s, id, fun _ _ => ⟨id, id⟩⟩

theorem Keeps.trans (h : Keeps owed s t) (k : Keeps owed t u) : Keeps owed s u :=
  ⟨h.toKeepsBlocks.trans k.toKeepsBlocks, k.engine ∘ h.engine, fun p owes =>
    ⟨(k.stays p owes).serving ∘ (h.stays p owes).serving, (k.stays p owes).quiet ∘ (h.stays p owes).quiet⟩⟩

/-- A conditional change keeps the laws when the change does. -/
theorem Keeps.ite {c : Prop} [Decidable c] (h : c → Keeps owed s t) (k : ¬ c → Keeps owed s u) :
    Keeps owed s (if c then t else u) := by
  split
  · next hc => exact h hc
  · next hc => exact k hc

/-- What the laws read of a state, and the commands that wait: every other field is that of the reset state. -/
def lawCore (s : State) : State :=
  { State.reset with
    assembly := { Assembly.cold with
      links := .of fun φ => { Link.cold with configuredClass := (s.assembly.links.get φ).configuredClass } }
    metrology := { Metrology.cold with
      calibration := s.metrology.calibration, creepThreshold := s.metrology.creepThreshold }
    netting := { Netting.cold with totals := s.netting.totals }
    interval := { IntervalUnit.cold with length := s.interval.length, pendingLength := s.interval.pendingLength }
    tariff := { Tariff.cold with
      registers := s.tariff.registers, freezeDay := s.tariff.freezeDay, claim := s.tariff.claim
      pendingState := s.tariff.pendingState }
    log := { s.log with contexts := .all .idle }
    envelope := { s.envelope with term := .cold, activeHigh := true, last := ⟨0, .zero, false⟩ }
    pulse := { s.pulse with
      source := .absolute, dropped := 0, generator := .idle, period := 0, test := false, timer := 0
      lastExit := .none }
    store := { Store.cold with
      state := s.store.state, image := s.store.image, write := s.store.write, copyX := s.store.copyX
      copyY := s.store.copyY, copyWrite := s.store.copyWrite, pendingCopy := s.store.pendingCopy
      notice := { Store.cold.notice with image := s.store.notice.image, checkpoint := s.store.notice.checkpoint } }
    engine := { Engine.cold with
      queues := s.engine.queues, state := s.engine.state, latches := s.engine.latches, enables := s.engine.enables
      lines := s.engine.lines, outbox := s.engine.outbox, pointer := s.engine.pointer
      frontEnds := s.engine.frontEnds }
    pending := s.pending }

theorem lawCore_settings (s : State) : SettingsLegal (lawCore s) ↔ SettingsLegal s := by
  have links : (lawCore s).assembly.legal ↔ s.assembly.legal :=
    forall_congr' fun φ => by simp [lawCore, Link.classLegal]
  rw [settingsLegal_iff, settingsLegal_iff, links]
  exact Iff.rfl

/-- A change of what no law reads keeps every law. -/
theorem Keeps.of_core (e : lawCore t = lawCore s) : Keeps owed s t where
  pending := (congrArg State.pending e : (lawCore t).pending = (lawCore s).pending)
  log h := (e ▸ h : LogLaw (lawCore t))
  counts h := (e ▸ h : WhBounded (lawCore t))
  settings h := (lawCore_settings t).mp (e ▸ (lawCore_settings s).mpr h)
  lines h := (e ▸ h : LinesAgree (lawCore t))
  curtail h := (e ▸ h : LineFollowsMonitor (lawCore t))
  pulses h := (e ▸ h : PulsesBounded (lawCore t))
  claim h := (e ▸ h : ClaimEdits (lawCore t))
  engine h := (e ▸ h : EngineOwes owed (lawCore t))
  stays p _ := ⟨fun h => (e ▸ h : Serving p (lawCore t)), fun h => (e ▸ h : Quiet p (lawCore t))⟩

theorem WhBounded.registers (h : WhBounded s) : s.tariff.registers.bounded = true := And.left h

theorem WhBounded.totals (h : WhBounded s) : s.netting.totals.bounded = true := And.left (And.right h)

theorem WhBounded.store (h : WhBounded s) : s.store.bounded = true := And.right (And.right (And.right (And.right h)))

/-! ## Changes of one block -/

theorem keeps_assembly (s : State) {a : Assembly} (h : s.assembly.legal → a.legal) :
    Keeps owed s { s with assembly := a } where
  pending := rfl
  log := id
  counts := id
  settings hs := by
    obtain ⟨assembly, rest⟩ := (settingsLegal_iff s).mp hs
    exact (settingsLegal_iff _).mpr ⟨h assembly, rest⟩
  lines := id
  curtail := id
  pulses := id
  claim := id
  engine := id
  stays _ _ := ⟨id, id⟩

theorem keeps_metrology (s : State) {m : Metrology} (h : s.metrology.legal → m.legal) :
    Keeps owed s { s with metrology := m } where
  pending := rfl
  log := id
  counts := id
  settings hs := by
    obtain ⟨assembly, metrology, rest⟩ := (settingsLegal_iff s).mp hs
    exact (settingsLegal_iff _).mpr ⟨assembly, h metrology, rest⟩
  lines := id
  curtail := id
  pulses := id
  claim := id
  engine := id
  stays _ _ := ⟨id, id⟩

theorem keeps_netting (s : State) {n : Netting} (h : WhBounded s → n.totals.bounded) :
    Keeps owed s { s with netting := n } where
  pending := rfl
  log := id
  counts hw := by
    have bounded := h hw
    obtain ⟨registers, -, rest⟩ := hw
    exact ⟨registers, bounded, rest⟩
  settings := id
  lines := id
  curtail := id
  pulses := id
  claim := id
  engine := id
  stays _ _ := ⟨id, id⟩

theorem keeps_interval (s : State) {i : IntervalUnit} (h : s.interval.legal → i.legal) :
    Keeps owed s { s with interval := i } where
  pending := rfl
  log := id
  counts := id
  settings hs := by
    obtain ⟨assembly, metrology, interval, rest⟩ := (settingsLegal_iff s).mp hs
    exact (settingsLegal_iff _).mpr ⟨assembly, metrology, h interval, rest⟩
  lines := id
  curtail := id
  pulses := id
  claim := id
  engine := id
  stays _ _ := ⟨id, id⟩

theorem keeps_tariff (s : State) {v : Tariff} (hr : WhBounded s → v.registers.bounded)
    (hf : s.tariff.freezeDay ≤ 28 → v.freezeDay ≤ 28) (hc : s.tariff.claimEdits → v.claimEdits) :
    Keeps owed s { s with tariff := v } where
  pending := rfl
  log := id
  counts hw := by
    have bounded := hr hw
    obtain ⟨-, rest⟩ := hw
    exact ⟨bounded, rest⟩
  settings hs := by
    obtain ⟨assembly, metrology, interval, day, rest⟩ := (settingsLegal_iff s).mp hs
    exact (settingsLegal_iff _).mpr ⟨assembly, metrology, interval, hf day, rest⟩
  lines := id
  curtail := id
  pulses := id
  claim := hc
  engine := id
  stays _ _ := ⟨id, id⟩

theorem keeps_log (s : State) {l : Log} (h : s.log.lawful → l.lawful) : Keeps owed s { s with log := l } where
  pending := rfl
  log := h
  counts := id
  settings := id
  lines := id
  curtail := id
  pulses := id
  claim := id
  engine := id
  stays _ _ := ⟨id, id⟩

theorem keeps_envelope (s : State) {e : Envelope} (h : s.envelope.legal → e.legal)
    (hl : s.envelope.lineFollows → e.lineFollows) : Keeps owed s { s with envelope := e } where
  pending := rfl
  log := id
  counts := id
  settings hs := by
    obtain ⟨assembly, metrology, interval, day, envelope, pulse⟩ := (settingsLegal_iff s).mp hs
    exact (settingsLegal_iff _).mpr ⟨assembly, metrology, interval, day, h envelope, pulse⟩
  lines := id
  curtail := hl
  pulses := id
  claim := id
  engine := id
  stays _ _ := ⟨id, id⟩

theorem keeps_pulse (s : State) {v : Pulse} (h : s.pulse.legal → v.legal) (hb : s.pulse.bounded → v.bounded)
    (hp : s.pulse.pendingCount ≤ 4095 → v.pendingCount ≤ 4095) : Keeps owed s { s with pulse := v } where
  pending := rfl
  log := id
  counts hw := by
    obtain ⟨registers, totals, testImport, testExport, store⟩ := hw
    obtain ⟨testImport', testExport'⟩ := hb ⟨testImport, testExport⟩
    exact ⟨registers, totals, testImport', testExport', store⟩
  settings hs := by
    obtain ⟨assembly, metrology, interval, day, envelope, pulse⟩ := (settingsLegal_iff s).mp hs
    exact (settingsLegal_iff _).mpr ⟨assembly, metrology, interval, day, envelope, h pulse⟩
  lines := id
  curtail := id
  pulses := hp
  claim := id
  engine := id
  stays _ _ := ⟨id, id⟩

/-- A change of the store that leaves its state: the Wh counts it keeps stay within their bounds. -/
theorem keeps_store (s : State) {r : Store} (hs : r.state = s.store.state) (hb : WhBounded s → r.bounded) :
    Keeps owed s { s with store := r } where
  pending := rfl
  log := id
  counts hw := by
    have kept := hb hw
    obtain ⟨registers, totals, testImport, testExport, -⟩ := hw
    exact ⟨registers, totals, testImport, testExport, kept⟩
  settings := id
  lines h := LinesAgree.of_eq h (congrArg latching hs) rfl rfl rfl
  curtail := id
  pulses := id
  claim := id
  engine h := by
    obtain ⟨ports, queues⟩ := h
    exact ⟨ports, by rwa [hs]⟩
  stays _ _ := ⟨id, id⟩

/-! ## Events (R169) -/

theorem keeps_latches (s : State) {a : PerPort EventSet} {l : PerPort Bool}
    (h : LinesAgree s → LinesAgree { s with engine := { s.engine with latches := a, lines := l } }) :
    Keeps owed s { s with engine := { s.engine with latches := a, lines := l } } :=
  ⟨⟨rfl, id, id, id, h, id, id, id⟩, id, fun _ _ => ⟨id, id⟩⟩

theorem keeps_raise (k : EventKind) (s : State) : Keeps owed s (raise k s) := by
  obtain ⟨a, l, e⟩ := raise_shape k s
  exact e ▸ keeps_latches s fun h => e ▸ h.raise k

theorem keeps_raiseFor (k : EventKind) (p : Port) (s : State) : Keeps owed s (raiseFor k p s) := by
  obtain ⟨a, l, e⟩ := raiseFor_shape k p s
  exact e ▸ keeps_latches s fun h => e ▸ h.raiseFor k p

theorem keeps_raiseIf (c : Bool) (k : EventKind) (s : State) : Keeps owed s (raiseIf c k s) := by
  obtain ⟨a, l, e⟩ := raiseIf_shape c k s
  exact e ▸ keeps_latches s fun h => e ▸ h.raiseIf c k

theorem Keeps.raise (h : Keeps owed s t) (k : EventKind) : Keeps owed s (Machine.raise k t) := h.trans (keeps_raise k t)

theorem Keeps.raiseFor (h : Keeps owed s t) (k : EventKind) (p : Port) : Keeps owed s (Machine.raiseFor k p t) :=
  h.trans (keeps_raiseFor k p t)

theorem Keeps.raiseIf (h : Keeps owed s t) (c : Bool) (k : EventKind) : Keeps owed s (Machine.raiseIf c k t) :=
  h.trans (keeps_raiseIf c k t)

/-! ## Links, sets and strobes (R1 to R16, R60, R139) -/

theorem PerPhase.forall_set {α : Type} {P : α → Prop} {v : PerPhase α} {φ : Phase} {x : α}
    (h : ∀ ψ, P (v.get ψ)) (hx : P x) (ψ : Phase) : P ((v.set φ x).get ψ) := by
  by_cases e : ψ = φ
  · rw [e, PerPhase.get_set_same]
    exact hx
  · rw [PerPhase.get_set_ne _ _ e]
    exact h ψ

/-- A link replaced by one whose class is legal, if the old one was. -/
theorem keeps_link (φ : Phase) {l : Link} {o : List OpenSet} (s : State)
    (h : (s.assembly.links.get φ).classLegal → l.classLegal) :
    Keeps owed s { s with assembly := { s.assembly with links := s.assembly.links.set φ l, openSets := o } } :=
  keeps_assembly s fun legal => PerPhase.forall_set legal (h (legal φ))

theorem keeps_setLink (φ : Phase) {l : Link} (s : State)
    (h : (s.assembly.links.get φ).classLegal → l.classLegal) : Keeps owed s (setLink φ l s) :=
  keeps_link φ s h

@[simp] theorem enterState_configuredClass (l : Link) (target : LinkState) :
    (enterState l target).configuredClass = l.configuredClass := by
  cases target <;> simp only [enterState] <;> split <;> rfl

theorem keeps_changeLink (φ : Phase) (target : LinkState) (s : State) : Keeps owed s (changeLink φ target s) := by
  unfold changeLink
  refine Keeps.ite (fun _ => .refl s) fun _ => Keeps.raise (keeps_link φ s fun legal => ?_) .linkChange
  simpa [Link.classLegal] using legal

theorem keeps_stepMissingRun (o : OpenSet) (φ : Phase) (s : State) : Keeps owed s (stepMissingRun o φ s) := by
  unfold stepMissingRun
  refine Keeps.ite (fun _ => Keeps.ite (fun _ => keeps_setLink φ s id) fun _ => Keeps.ite (fun _ => ?_) fun _ => ?_)
    fun _ => .refl s
  · refine Keeps.trans ?_ (keeps_changeLink φ .down _)
    exact keeps_setLink φ s id
  · exact keeps_setLink φ s id

theorem keeps_closeQuality (o : OpenSet) (s : State) : Keeps owed s (closeQuality o s) := by
  unfold closeQuality
  refine Keeps.raiseIf (Keeps.raiseIf (.of_core ?_) _ _) _ _
  rfl

theorem keeps_countClosing (s : State) : Keeps owed s (countClosing s) := by
  unfold countClosing takeBoundary
  refine Keeps.ite (fun _ => Keeps.raiseIf (.of_core ?_) _ _) fun _ => .of_core ?_ <;> rfl

theorem keeps_closeSet (o : OpenSet) (s : State) : Keeps owed s (closeSet o s) := by
  have runs := ((keeps_stepMissingRun (owed := owed) o .p1 (closeQuality o s)).trans
    (keeps_stepMissingRun o .p2 _)).trans (keeps_stepMissingRun o .p3 _)
  exact ((keeps_closeQuality o s).trans runs).trans (keeps_countClosing _)

theorem keeps_closeDueSet (s : State) : Keeps owed s (closeDueSet s) := by
  unfold closeDueSet
  split
  · exact keeps_closeSet _ s
  · exact .refl s

@[simp] theorem linkFrames_configuredClass (n : Byte) (l : Link) :
    (linkFrames n l).2.configuredClass = l.configuredClass := by
  unfold linkFrames
  repeat' split
  all_goals rfl

theorem keeps_sendFrames (n : Byte) (s : State) : Keeps owed s (sendFrames n s) :=
  keeps_assembly s fun legal φ => by simpa [Link.classLegal] using legal φ

theorem keeps_endTest (c : ExitCause) (s : State) : Keeps owed s (endTest c s) := by
  unfold endTest
  refine Keeps.ite (fun _ => Keeps.raise ?_ _) fun _ => .refl s
  exact keeps_pulse s id id fun _ => Nat.zero_le _

theorem keeps_tickTestTimer (s : State) : Keeps owed s (tickTestTimer s) := by
  have ticked : Keeps owed s { s with pulse := { s.pulse with timer := s.pulse.timer - 1 } } := .of_core rfl
  unfold tickTestTimer
  exact Keeps.ite (fun _ => Keeps.ite (fun _ => ticked.trans (keeps_endTest .timer _)) fun _ => ticked)
    fun _ => .refl s

theorem keeps_issueStrobe (s : State) : Keeps owed s (issueStrobe s) := by
  have opened : Keeps owed (closeDueSet s) (openSet (closeDueSet s)) := .of_core rfl
  exact (((keeps_closeDueSet s).trans opened).trans (keeps_sendFrames _ _)).trans (keeps_tickTestTimer _)

theorem keeps_takeSample (φ : Phase) (n : Byte) (x : Sample) (s : State) : Keeps owed s (takeSample φ n x s) := by
  unfold takeSample
  exact Keeps.ite (fun _ => .of_core rfl) fun _ => keeps_setLink φ s id

theorem keeps_takeIdentity (φ : Phase) (serial : Word) (c : Nat) (s : State) :
    Keeps owed s (takeIdentity φ serial c s) := by
  have recorded : Keeps owed s (recordIdentity φ serial c s) := keeps_setLink φ s id
  unfold takeIdentity
  dsimp only
  split
  · exact .refl s
  · exact recorded.trans (keeps_changeLink φ _ _)
  · refine Keeps.ite (fun _ => Keeps.ite (fun _ => .refl s) fun _ => ?_) fun _ => ?_
    · refine Keeps.raise ?_ _
      exact keeps_setLink φ s id
    · exact recorded.trans (keeps_changeLink φ _ _)
  · exact Keeps.ite (fun _ => recorded.trans (keeps_changeLink φ _ _)) fun _ => recorded

theorem keeps_receiveFrame (φ : Phase) (bytes : List Byte) (s : State) : Keeps owed s (receiveFrame φ bytes s) := by
  unfold receiveFrame
  refine Keeps.ite (fun _ => .refl s) fun _ => ?_
  split
  · exact keeps_setLink φ s id
  · exact keeps_takeIdentity φ _ _ s
  · exact Keeps.ite (fun _ => keeps_takeSample φ _ _ s) fun _ => .refl s

/-! ## Settings of the links (R8, R10 to R12) -/

theorem keeps_setConfiguredClass (φ : Phase) {c : Nat} (hc : 1 ≤ c ∧ c ≤ 4) (s : State) :
    Keeps owed s (setConfiguredClass φ c s) := by
  have stored : Keeps owed s (setLink φ { s.assembly.links.get φ with configuredClass := c } s) :=
    keeps_setLink φ s fun _ => hc
  unfold setConfiguredClass
  refine Keeps.ite (fun _ => .refl s) fun _ => ?_
  dsimp only
  split
  · exact Keeps.ite (fun _ => stored) fun _ => stored.trans (keeps_changeLink φ _ _)
  · exact keeps_setLink φ s fun _ => hc
  · exact stored
  · exact stored

theorem keeps_disablePhase (φ : Phase) (s : State) : Keeps owed s (disablePhase φ s) := by
  refine Keeps.raiseIf ((keeps_changeLink φ .disabled s).trans ?_) _ _
  exact .of_core rfl

theorem keeps_enablePhase (φ : Phase) (s : State) : Keeps owed s (enablePhase φ s) := by
  refine Keeps.raise ((keeps_changeLink φ .down s).trans ?_) _
  exact .of_core rfl

theorem keeps_setPhasesInUse (v : PhasesInUse) (s : State) : Keeps owed s (setPhasesInUse v s) := by
  have set : Keeps owed s { s with assembly := { s.assembly with phases := v } } := .of_core rfl
  unfold setPhasesInUse
  refine Keeps.ite (fun _ => .refl s) fun _ => ?_
  cases v with
  | one => exact (set.trans (keeps_disablePhase .p2 _)).trans (keeps_disablePhase .p3 _)
  | three => exact (set.trans (keeps_enablePhase .p2 _)).trans (keeps_enablePhase .p3 _)

theorem keeps_restartLink (φ : Phase) (s : State) : Keeps owed s (restartLink φ s) :=
  (keeps_changeLink φ .down s).trans (keeps_setLink φ _ id)

theorem keeps_clearCounters (s : State) : Keeps owed s { s with assembly := clearCounters s.assembly } :=
  keeps_assembly s fun legal φ => by simpa [clearCounters, Link.classLegal] using legal φ

end Sys2Proof.Machine
end

section
/-! PROOF. What the measuring, billing and recording blocks keep at a step, with the one rule of each that bears on a law. -/

namespace Sys2Proof.Machine

variable {owed : Port → Nat}

/-! ## Measuring (R23 to R35) -/

theorem keeps_closeSecond (b : BoundaryNotice) (s : State) : Keeps owed s (closeSecond b s) := .of_core rfl

theorem keeps_closeWhenComplete (s : State) : Keeps owed s (closeWhenComplete s) := by
  unfold closeWhenComplete
  split
  · exact .refl s
  · next b _ _ =>
    refine Keeps.ite (fun _ => Keeps.ite (fun _ => keeps_closeSecond b s) fun _ => ?_) fun _ => .refl s
    exact (keeps_closeSecond b s).trans (.of_core rfl)

theorem keeps_takeSet (c : CalibratedSet) (s : State) : Keeps owed s (takeSet c s) := by
  unfold takeSet
  refine Keeps.ite (fun _ => Keeps.ite (fun _ => .of_core rfl) fun _ => ?_) fun _ => .refl s
  refine Keeps.trans ?_ (keeps_closeWhenComplete _)
  exact .of_core rfl

theorem keeps_takeSets (cs : List CalibratedSet) (s : State) :
    Keeps owed s (cs.foldl (fun t c => takeSet c t) s) := by
  induction cs generalizing s with
  | nil => exact .refl s
  | cons c cs ih => exact (keeps_takeSet c s).trans (ih _)

theorem keeps_releaseSets (s : State) : Keeps owed s (releaseSets s) := by
  unfold releaseSets
  refine Keeps.trans ?_ (keeps_takeSets _ _)
  exact .of_core rfl

theorem keeps_stopMeasuring (s : State) : Keeps owed s (stopMeasuring s) :=
  Keeps.ite (fun _ => .refl s) fun _ => .of_core rfl

/-! ## Calibration settings (R21, R22, R31) -/

theorem keeps_setCalibration (φ : Phase) {c : CalibrationSet} (s : State)
    (h : (s.metrology.calibration.get φ).legal → c.legal) : Keeps owed s (setCalibration φ c s) := by
  refine keeps_metrology s fun legal => ?_
  obtain ⟨calibration, creep⟩ := legal
  exact ⟨PerPhase.forall_set calibration (h (calibration φ)), creep⟩

theorem storeGain_legal {c : CalibrationSet} (h : c.legal) (x : Quantity) {g : Nat} (hg : g ≤ 65535) :
    (storeGain x g c).legal := by
  obtain ⟨voltage, current, offsets⟩ := h
  cases x with
  | voltage => exact ⟨hg, current, offsets⟩
  | current => exact ⟨voltage, hg, offsets⟩

theorem storeOffset_legal {c : CalibrationSet} (h : c.legal) (x : Quantity) {o : Int} (ho : |o| ≤ 2047) :
    (storeOffset x o c).legal := by
  obtain ⟨gainV, gainI, voltage, current⟩ := h
  cases x with
  | voltage => exact ⟨gainV, gainI, ho, current⟩
  | current => exact ⟨gainV, gainI, voltage, ho⟩

theorem gainNamed_le {w : Word} {g : Nat} (h : gainNamed w = some g) : g ≤ 65535 := by
  unfold gainNamed at h
  split at h
  · simp only [Option.some.injEq] at h
    omega
  · simp at h

theorem offsetOperand_abs (w : Word) : |offsetOperand w| ≤ 2047 := by
  rw [abs_le]
  unfold offsetOperand clampInt
  split
  · omega
  · split <;> omega

/-! ## Netting (R41 to R47) -/

@[simp] theorem totals_zero_bounded : Totals.zero.bounded = true := by decide

/-- Every gain is taken modulo 1,000,000,000, so the totals are counts of Wh whatever they were (R47). -/
@[simp] theorem gainTotals_bounded (t : Totals) (k : PerPhase Int) (kS : Int) :
    (gainTotals t k kS).bounded = true := by
  simp [Totals.bounded, gainTotals, phases]

theorem keeps_takeSecond (y : Summary) (s : State) : Keeps owed s (takeSecond y s) := by
  have taken : Keeps owed s { s with netting := (takeSecond y s).netting } :=
    keeps_netting s fun _ => gainTotals_bounded _ _ _
  exact taken.trans (.of_core rfl)

theorem keeps_nettingSummary (y : Summary) (s : State) : Keeps owed s (nettingSummary y s) := by
  unfold nettingSummary
  exact Keeps.ite (fun _ => keeps_takeSecond y s) fun _ => .of_core rfl

theorem keeps_takeHeld (s : State) : Keeps owed s (takeHeld s) := by
  unfold takeHeld
  split
  · exact .refl s
  · refine Keeps.trans ?_ (keeps_takeSecond _ _)
    exact .of_core rfl

@[simp] theorem applyBasis_totals (n : Netting) : (applyBasis n).totals = n.totals := by
  unfold applyBasis
  split <;> rfl

theorem keeps_takeAcknowledgment (a : Acknowledgment) (s : State) : Keeps owed s (takeAcknowledgment a s) := by
  unfold takeAcknowledgment
  refine Keeps.ite (fun _ => ?_) fun _ => .refl s
  refine Keeps.trans ?_ (keeps_takeHeld _)
  refine keeps_netting s fun bounded => ?_
  split
  · rw [applyBasis_totals]
    exact bounded.totals
  · exact bounded.totals

theorem keeps_clearTotals (s : State) : Keeps owed s { s with netting := clearTotals s.netting } :=
  keeps_netting s fun _ => totals_zero_bounded

/-! ## The interval unit (R66 to R70) -/

/-- A tally opens with the length in force, which was legal in force or pending (R66, R67). -/
theorem openTally_legal {u : IntervalUnit} (h : u.legal) (start : Stamp) (f : IntervalFlags) :
    (openTally start f u).legal := by
  obtain ⟨inForce, pending⟩ := h
  unfold openTally applyLength
  dsimp only
  split
  · next m hm => exact ⟨pending m hm, nofun⟩
  · exact ⟨inForce, pending⟩

theorem keeps_takeJoined (y : Summary) (e : EnvelopeStatus) (d : Dispatch) (s : State) :
    Keeps owed s (takeJoined y e d s) := by
  unfold takeJoined
  refine Keeps.ite (fun _ => Keeps.raise ?_ _) fun _ => .of_core rfl
  have opened (v : IntervalUnit) (hv : s.interval.legal → v.legal) :
      Keeps owed s { s with interval := openTally (nextTallyStart y) (nextTallyFlags y) v } :=
    keeps_interval s fun legal => openTally_legal (hv legal) _ _
  refine (opened { s.interval with tally := addSecond s.interval.tally d e } id).trans ?_
  exact .of_core rfl

theorem keeps_joinSecond (s : State) : Keeps owed s (joinSecond s) := by
  unfold joinSecond
  split
  · refine Keeps.trans ?_ (keeps_takeJoined _ _ _ _)
    exact .of_core rfl
  · exact .refl s

theorem intervalLengthNamed_legal {w : Word} {m : Nat} (h : intervalLengthNamed w = some m) : lengthLegal m := by
  unfold intervalLengthNamed at h
  split at h
  · next legal => exact Option.some.inj h ▸ legal
  · exact nomatch h

theorem keeps_setPendingLength {m : Nat} (hm : lengthLegal m) (s : State) :
    Keeps owed s { s with interval := setPendingLength m s.interval } := by
  refine keeps_interval s fun legal => ?_
  obtain ⟨inForce, -⟩ := legal
  refine ⟨inForce, fun k hk => ?_⟩
  simp only [setPendingLength] at hk
  split at hk
  · exact nomatch hk
  · exact Option.some.inj hk ▸ hm

/-! ## The interval log (R98 to R112) -/

theorem recordsLawful_nil {n : Nat} (h : 1 ≤ n) : recordsLawful [] n := by
  refine ⟨h, List.Pairwise.nil, ?_, ?_⟩ <;> simp [slotsUsed]

/-- Records left after the oldest have gone are lawful. -/
theorem recordsLawful.kept {removed kept : List LogRecord} {n : Nat} (h : recordsLawful (removed ++ kept) n) :
    recordsLawful kept n := by
  obtain ⟨first, rising, range, slots⟩ := h
  rw [List.map_append] at rising
  rw [slotsUsed_append] at slots
  exact ⟨first, (List.pairwise_append.mp rising).2.1, fun r hr => range r (List.mem_append_right _ hr), by omega⟩

/-- A record placed under N behind lawful records, with room for it, makes lawful records (R100). -/
theorem recordsLawful.place {kept : List LogRecord} {n : Nat} (h : recordsLawful kept n) (b : IntervalRecord)
    (room : slotsUsed kept + slotCount b ≤ logSlots) : recordsLawful (kept ++ [⟨n, b⟩]) (n + 1) := by
  obtain ⟨first, rising, range, -⟩ := h
  refine ⟨Nat.le_succ_of_le first, ?_, fun r hr => ?_, ?_⟩
  · rw [List.map_append, List.pairwise_append]
    refine ⟨rising, List.pairwise_singleton _ _, fun k hk m hm => ?_⟩
    obtain ⟨r, hr, rfl⟩ := List.mem_map.mp hk
    obtain ⟨-, below⟩ := range r hr
    rw [List.map_cons, List.map_nil, List.mem_singleton] at hm
    exact hm ▸ below
  · rcases List.mem_append.mp hr with hr | hr
    · obtain ⟨positive, below⟩ := range r hr
      exact ⟨positive, Nat.lt_succ_of_lt below⟩
    · rw [List.mem_singleton.mp hr]
      exact ⟨first, Nat.lt_succ_self n⟩
  · rw [slotsUsed_append]
    simpa [slotsUsed] using room

theorem mem_dropRemoved {removed : List LogRecord} {q : List CommitEntry} {e : CommitEntry}
    (h : e ∈ dropRemoved removed q) : e ∈ q := by
  cases q with
  | nil => exact h
  | cons x xs =>
    rcases List.mem_cons.mp h with rfl | h
    · exact List.mem_cons_self
    · exact List.mem_cons_of_mem x (List.mem_filter.mp h).1

/-- The removal of an intake leaves room for the record, even when it leaves no record (R100). -/
theorem evict_room (b : IntervalRecord) (rs : List LogRecord) :
    slotsUsed (evict (slotCount b) rs).2 + slotCount b ≤ logSlots := by
  rcases evict_fits (slotCount b) rs with h | h
  · obtain ⟨-, two⟩ := slotCount_bounds b
    rw [h]
    simp only [slotsUsed, List.map_nil, List.sum_nil, logSlots]
    omega
  · exact h

/-- CONTEXT_GAP events keep every law (R111). -/
theorem keeps_raiseGaps (removed : List LogRecord) (before : PerPort Context) (s : State) :
    Keeps owed s (raiseGaps removed before s) := by
  have event : ∀ (p : Port) (t : State),
      Keeps owed t (if contextMoved removed (before.get p) then raiseFor .contextGap p t else t) :=
    fun p t => Keeps.ite (fun _ => keeps_raiseFor _ p t) fun _ => .refl t
  exact ((event .utility s).trans (event .premises _)).trans (event .service _)

theorem keeps_takeRecord (b : IntervalRecord) (s : State) : Keeps owed s (takeRecord b s) := by
  unfold takeRecord
  refine Keeps.ite (fun _ => .refl s) fun _ => Keeps.trans ?_ (keeps_raiseGaps _ _ _)
  refine keeps_log s fun lawful => ?_
  obtain ⟨records, committed, queue⟩ := lawful
  have placed : recordsLawful ((evict (slotCount b) s.log.records).2 ++ [⟨s.log.next, b⟩]) (s.log.next + 1) := by
    rw [← evict_append (slotCount b) s.log.records] at records
    exact records.kept.place b (evict_room b _)
  refine ⟨placed, committed, fun e he => ?_⟩
  rcases List.mem_append.mp he with he | he
  · exact queue e (mem_dropRemoved he)
  · rw [List.mem_singleton.mp he]
    exact placed

theorem keeps_commit (s : State) {e : CommitEntry} {es : List CommitEntry} (hq : s.log.queue = e :: es) :
    Keeps owed s { s with log := { s.log with queue := es, committed := entryImage e } } := by
  refine keeps_log s fun lawful => ?_
  obtain ⟨records, -, queue⟩ := lawful
  rw [hq] at queue
  exact ⟨records, queue e List.mem_cons_self, fun x hx => queue x (List.mem_cons_of_mem e hx)⟩

theorem keeps_clearLog (s : State) : Keeps owed s (onLog clearLog s) := by
  refine keeps_log s fun lawful => ?_
  obtain ⟨⟨first, -⟩, committed, queue⟩ := lawful
  refine ⟨recordsLawful_nil first, committed, fun e he => ?_⟩
  rcases List.mem_append.mp he with he | he
  · exact queue e he
  · rw [List.mem_singleton.mp he]
    exact recordsLawful_nil first

/-! ## The tariff unit (R76 to R94) -/

/-- A Wh count put in the place of another keeps a table of Wh counts (R76). -/
theorem gainRegister_bounded {v : Vector Nat 6} (h : v.toList.all whCount = true) (band gain : Nat) :
    (gainRegister v band gain).toList.all whCount = true := by
  unfold gainRegister
  split
  · rw [Vector.toList_set, List.all_eq_true] at *
    intro x hx
    rcases List.mem_or_eq_of_mem_set hx with hx | hx
    · exact h x hx
    · exact hx ▸ whCount_addWh _ _
  · exact h

theorem keeps_fileDispatch (d : Dispatch) (s : State) :
    Keeps owed s { s with tariff := fileDispatch d s.tariff } := by
  unfold fileDispatch
  split
  · exact .refl s
  · refine keeps_tariff s (fun bounded => ?_) id id
    have registers := bounded.registers
    simp only [Registers.bounded, Bool.and_eq_true] at registers ⊢
    obtain ⟨imported, exported⟩ := registers
    exact ⟨gainRegister_bounded imported _ _, gainRegister_bounded exported _ _⟩

theorem keeps_takeFreeze (n : Nat) (c : FreezeCause) (day : Option Nat) (t : Stamp) (s : State) :
    Keeps owed s (takeFreeze n c day t s) := by
  unfold takeFreeze
  refine Keeps.raise ?_ _
  exact .of_core rfl

theorem keeps_takeNumberedFreeze (c : FreezeCause) (day : Option Nat) (t : Stamp) (s : State) :
    Keeps owed s (takeNumberedFreeze c day t s) :=
  (keeps_takeFreeze _ c day t s).trans (.of_core rfl)

theorem keeps_takeCommandFreeze (d : Dispatch) (s : State) : Keeps owed s (takeCommandFreeze d s) := by
  unfold takeCommandFreeze
  split
  · exact (keeps_takeFreeze _ _ _ _ s).trans (.of_core rfl)
  · exact .refl s

theorem keeps_takeScheduledFreeze (d : Dispatch) (s : State) : Keeps owed s (takeScheduledFreeze d s) := by
  unfold takeScheduledFreeze
  refine Keeps.ite (fun _ => ?_) fun _ => .refl s
  split
  · exact (keeps_takeNumberedFreeze _ _ _ s).trans (.of_core rfl)
  · exact .of_core rfl

/-- A schedule that is due is ARMED (R89). -/
theorem armed_of_activationDue {u : Tariff} {d : Dispatch} (h : activationDue u d = true) :
    u.pendingState = .armed := by
  unfold activationDue at h
  split at h
  · assumption
  · exact nomatch h

@[simp] theorem takeNumberedFreeze_claim (c : FreezeCause) (day : Option Nat) (t : Stamp) (s : State) :
    (takeNumberedFreeze c day t s).tariff.claim = s.tariff.claim := by rw [takeNumberedFreeze_tariff]

@[simp] theorem takeNumberedFreeze_pendingState (c : FreezeCause) (day : Option Nat) (t : Stamp) (s : State) :
    (takeNumberedFreeze c day t s).tariff.pendingState = s.tariff.pendingState := by rw [takeNumberedFreeze_tariff]

/-- An activation finds no claim: the schedule it takes is ARMED, and a claim goes with EDITING (R82, R89). -/
theorem keeps_activateSchedule (d : Dispatch) (s : State) : Keeps owed s (activateSchedule d s) := by
  unfold activateSchedule
  refine Keeps.ite (fun due => Keeps.raise ?_ _) fun _ => .refl s
  have frozen : Keeps owed s
      (if s.tariff.freezeOnActivation then takeNumberedFreeze .activation none d.finish s else s) :=
    Keeps.ite (fun _ => keeps_takeNumberedFreeze _ _ _ s) fun _ => .refl s
  refine frozen.trans (keeps_tariff _ WhBounded.registers id fun edits => ?_)
  have armed := armed_of_activationDue due
  have unclaimed : (if s.tariff.freezeOnActivation then takeNumberedFreeze .activation none d.finish s
      else s).tariff.claim = none := by
    by_contra claimed
    have editing := edits claimed
    split at editing <;> simp [armed] at editing
  exact fun claimed => absurd unclaimed claimed

theorem keeps_takeTariffDispatch (d : Dispatch) (s : State) : Keeps owed s (takeTariffDispatch d s) :=
  (((keeps_fileDispatch d s).trans (keeps_takeCommandFreeze d _)).trans (keeps_takeScheduledFreeze d _)).trans
    (keeps_activateSchedule d _)

/-- A change of the tariff unit that leaves no claim on a schedule that is not EDITING. -/
theorem keeps_claim (f : Tariff → Tariff) (s : State) (hr : (f s.tariff).registers = s.tariff.registers)
    (hd : (f s.tariff).freezeDay = s.tariff.freezeDay) (hc : s.tariff.claimEdits → (f s.tariff).claimEdits) :
    Keeps owed s (onTariff f s) :=
  keeps_tariff s (fun h => hr ▸ h.registers) (fun h => hd ▸ h) hc

theorem keeps_loseClaim (p : Port) (s : State) : Keeps owed s (loseClaim p s) := by
  unfold loseClaim
  refine Keeps.ite (fun _ => Keeps.raiseFor ?_ _ _) fun _ => .refl s
  exact keeps_tariff s WhBounded.registers id fun _ => fun claimed => absurd rfl claimed

/-! ## The envelope (R115) -/

theorem keeps_takeEnvelopeSummary (y : Summary) (s : State) : Keeps owed s (takeEnvelopeSummary y s) := by
  unfold takeEnvelopeSummary
  have after : Keeps owed s { s with envelope := envelopeAfter s.envelope y } := keeps_envelope s id fun _ => rfl
  refine Keeps.raiseIf (Keeps.raiseIf (Keeps.raiseIf (after.trans ?_) _ _) _ _) _ _
  exact .of_core rfl

theorem keeps_envelopeSummary (s : State) : Keeps owed s (envelopeSummary s) := by
  unfold envelopeSummary
  split
  · exact .refl s
  · refine Keeps.trans ?_ (keeps_takeEnvelopeSummary _ _)
    exact .of_core rfl

/-! ## The pulse unit (R133 to R138) -/

/-- A start takes from the pending count and touches no setting and no counter (R135). -/
theorem keeps_startPulse (s : State) : Keeps owed s { s with pulse := startPulse s.pulse } :=
  keeps_pulse s id id fun h => (Nat.sub_le _ _).trans h

theorem keeps_takeHandOff (h : HandOff) (s : State) : Keeps owed s { s with pulse := takeHandOff s.pulse h } := by
  have added : Keeps owed s { s with pulse := addPulses s.pulse (pulsedCount s.pulse h) } :=
    keeps_pulse s id id fun _ => Nat.min_le_left _ _
  have counted : Keeps owed s { s with pulse := countTest (addPulses s.pulse (pulsedCount s.pulse h)) h } := by
    refine added.trans ?_
    unfold countTest
    split
    · exact keeps_pulse { s with pulse := addPulses s.pulse (pulsedCount s.pulse h) } id
        (fun _ => ⟨addWh_lt _ _, addWh_lt _ _⟩) id
    · exact .refl _
  unfold takeHandOff
  dsimp only
  split
  · split
    · unfold wakeGenerator
      split
      · exact counted.trans (keeps_startPulse _)
      · exact counted
    · exact counted
  · exact .refl s

theorem keeps_enterTest (s : State) : Keeps owed s (enterTest s) := by
  unfold enterTest
  refine Keeps.raise ?_ _
  exact keeps_pulse s id (fun _ => ⟨Nat.zero_lt_succ _, Nat.zero_lt_succ _⟩) fun _ => Nat.zero_le _

end Sys2Proof.Machine
end

section
/-! PROOF. What the store's states, the saves, the losses and the restores keep, and how the store's copies of Wh counts come
from the blocks and go back to them. -/

namespace Sys2Proof.Machine

variable {owed : Port → Nat}

/-! ## The Wh counts that the store has (R146, R150, R153) -/

/-- Checkpoint contents that the store has: in a copy, being written, waiting, or in the restore notice. -/
def Store.holds (r : Store) (c : CheckpointContents) : Prop :=
  (∃ x, r.copyX = some x ∧ x.contents = c) ∨ (∃ y, r.copyY = some y ∧ y.contents = c) ∨
    (∃ w, r.copyWrite = some w ∧ w.copy.contents = c) ∨ r.pendingCopy = some c ∨ r.notice.checkpoint = some c

theorem store_bounded_iff (r : Store) : r.bounded = true ↔
    (∀ i, r.keeps i → i.bounded = true) ∧ ∀ c, r.holds c → c.bounded = true := by
  have write : (match r.write with | .image i => i.bounded | _ => true) = true ↔
      ∀ i, r.write = .image i → i.bounded = true := by
    cases r.write <;> simp
  simp only [Store.bounded, Bool.and_eq_true, Option.all_eq_true]
  constructor
  · rintro ⟨⟨⟨⟨⟨⟨⟨image, notice⟩, saved⟩, x⟩, y⟩, written⟩, pending⟩, checkpoint⟩
    refine ⟨?_, ?_⟩
    · rintro i (h | h | h)
      · exact image i h
      · exact notice i h
      · exact write.mp saved i h
    · rintro c (⟨k, h, rfl⟩ | ⟨k, h, rfl⟩ | ⟨k, h, rfl⟩ | h | h)
      · exact x k h
      · exact y k h
      · exact written k h
      · exact pending c h
      · exact checkpoint c h
  · rintro ⟨images, copies⟩
    exact ⟨⟨⟨⟨⟨⟨⟨fun i h => images i (.inl h), fun i h => images i (.inr (.inl h))⟩,
      write.mpr fun i h => images i (.inr (.inr h))⟩, fun k h => copies _ (.inl ⟨k, h, rfl⟩)⟩,
      fun k h => copies _ (.inr (.inl ⟨k, h, rfl⟩))⟩, fun k h => copies _ (.inr (.inr (.inl ⟨k, h, rfl⟩)))⟩,
      fun c h => copies c (.inr (.inr (.inr (.inl h))))⟩, fun c h => copies c (.inr (.inr (.inr (.inr h))))⟩

/-- A store whose images and checkpoint contents were there before, or are within their bounds, is within its own. -/
theorem Store.bounded_of {r v : Store} (h : r.bounded = true) (hi : ∀ i, v.keeps i → r.keeps i ∨ i.bounded = true)
    (hc : ∀ c, v.holds c → r.holds c ∨ c.bounded = true) : v.bounded = true := by
  obtain ⟨images, copies⟩ := (store_bounded_iff r).mp h
  exact (store_bounded_iff v).mpr ⟨fun i k => (hi i k).elim (images i) id, fun c k => (hc c k).elim (copies c) id⟩

theorem setCopy_holds {n : CopyName} {r : Store} {c : CheckpointContents} (h : (setCopy n none r).holds c) :
    r.holds c := by
  cases n with
  | x => exact h.imp (fun k => by obtain ⟨_, e, _⟩ := k; exact nomatch e) id
  | y => exact h.imp_right fun h => h.imp (fun k => by obtain ⟨_, e, _⟩ := k; exact nomatch e) id

theorem beginCopy_holds {c k : CheckpointContents} {r : Store} (h : (beginCopy c r).holds k) : r.holds k ∨ k = c := by
  have old : ∀ {w}, ({ setCopy (writeTarget r) none r with copyWrite := w } : Store).holds k →
      r.holds k ∨ ∃ v, w = some v ∧ v.copy.contents = k := by
    rintro w (h | h | h | h)
    · exact .inl (setCopy_holds (.inl h))
    · exact .inl (setCopy_holds (.inr (.inl h)))
    · exact .inr h
    · exact .inl (setCopy_holds (n := writeTarget r) (.inr (.inr (.inr h))))
  refine (old h).imp_right ?_
  rintro ⟨v, hv, rfl⟩
  rw [← Option.some.inj hv]

theorem endCopy_holds {r : Store} {k : CheckpointContents} (h : (endCopy r).holds k) : r.holds k := by
  unfold endCopy at h
  split at h
  · exact h
  · next w hw =>
    have written : ∀ {l v p}, ({ setCopy w.target (some w.copy) r with
        lastCopy := l, copyWrite := v, pendingCopy := p } : Store).holds k → (v = none) →
        (p = none ∨ p = r.pendingCopy) → r.holds k := by
      rintro l v p h rfl hp
      have pending : ∀ c, p = some c → r.holds c := fun c e =>
        hp.elim (fun n => nomatch n.symm.trans e) fun q => .inr (.inr (.inr (.inl (q.symm.trans e))))
      cases ht : w.target <;> rw [ht] at h
      all_goals
        rcases h with ⟨x, e, rfl⟩ | ⟨y, e, rfl⟩ | ⟨_, e, _⟩ | h | h
      · exact Option.some.inj e ▸ .inr (.inr (.inl ⟨w, hw, rfl⟩))
      · exact .inr (.inl ⟨y, e, rfl⟩)
      · exact nomatch e
      · exact pending k h
      · exact .inr (.inr (.inr (.inr h)))
      · exact .inl ⟨x, e, rfl⟩
      · exact Option.some.inj e ▸ .inr (.inr (.inl ⟨w, hw, rfl⟩))
      · exact nomatch e
      · exact pending k h
      · exact .inr (.inr (.inr (.inr h)))
    dsimp only at h
    split at h
    · exact written (l := some w.target) h rfl (.inr (by cases w.target <;> rfl))
    · next c hc =>
      rcases beginCopy_holds h with h | rfl
      · exact written (l := some w.target) h rfl (.inl rfl)
      · exact .inr (.inr (.inr (.inl hc)))

/-- The valid checkpoint is that of a copy (R150). -/
theorem validCheckpoint_holds {r : Store} {c : CheckpointContents} (h : validCheckpoint r = some c) : r.holds c := by
  unfold validCheckpoint at h
  cases hv : validCopy r with
  | none => simp [hv] at h
  | some n =>
    simp only [hv, Option.bind_some, Option.map_eq_some_iff] at h
    cases n with
    | x => exact .inl h
    | y => exact .inr (.inl h)

theorem noticeFor_checkpoint {r : Store} {c : CheckpointContents} (h : (noticeFor r).checkpoint = some c) :
    r.holds c := by
  by_cases hk : restoreKind r = .checkpoint
  · exact validCheckpoint_holds (by simpa [noticeFor, hk] using h)
  · simp [noticeFor, hk] at h

@[simp] theorem registers_zero_bounded : Registers.zero.bounded = true := by decide

/-- The contents of a checkpoint are Wh counts of the blocks (R150, Table 9-3). -/
theorem checkpointOf_bounded {s : State} (h : WhBounded s) : (checkpointOf s).bounded = true := by
  simp only [CheckpointContents.bounded, Bool.and_eq_true]
  exact ⟨h.registers, h.totals⟩

/-- The save image holds Wh counts of the blocks (R146, Table 9-2). -/
theorem imageNow_bounded {s : State} (h : WhBounded s) : (imageNow s).bounded = true := by
  simp only [SaveImage.bounded, Bool.and_eq_true]
  exact ⟨h.registers, h.totals⟩

theorem keeps_beginCopy (s : State) :
    Keeps owed s { s with store := beginCopy (checkpointOf s) s.store } := by
  obtain ⟨image, notice, write⟩ := beginCopy_images (checkpointOf s) s.store
  refine keeps_store s (by unfold beginCopy; cases writeTarget s.store <;> rfl) fun h => ?_
  refine Store.bounded_of h.store (fun i k => .inl ?_) fun c k => (beginCopy_holds k).imp_right fun e => ?_
  · rwa [Store.keeps, image, notice, write] at k
  · exact e ▸ checkpointOf_bounded h

theorem endCopy_state (r : Store) : (endCopy r).state = r.state := by
  have set : ∀ n c (v : Store), (setCopy n c v).state = v.state := fun n _ _ => by cases n <;> rfl
  unfold endCopy
  split
  · rfl
  · dsimp only
    split
    · exact set _ _ r
    · exact (set _ _ _).trans (set _ _ r)

theorem keeps_endCopy (s : State) : Keeps owed s { s with store := endCopy s.store } := by
  obtain ⟨image, notice, write⟩ := endCopy_images s.store
  refine keeps_store s (endCopy_state _) fun h => ?_
  refine Store.bounded_of h.store (fun i k => .inl ?_) fun c k => .inl (endCopy_holds k)
  rwa [Store.keeps, image, notice, write] at k

/-- A save that begins writes an image of the counts as they stand (R54, R146). -/
theorem keeps_saveBegun (s : State) :
    Keeps owed s { s with store := { s.store with image := none, write := .image (imageNow s) } } := by
  refine keeps_store s rfl fun h => Store.bounded_of h.store ?_ fun c k => .inl k
  rintro i (k | k | k)
  · exact nomatch k
  · exact .inl (.inr (.inl k))
  · exact .inr (SaveWrite.image.inj k ▸ imageNow_bounded h)

/-- The save of a CLEAR ALL sets both copies invalid (R155). -/
theorem keeps_clearBegun (s : State) :
    Keeps owed s { s with store := { s.store with copyX := none, copyY := none, write := .clearing } } := by
  refine keeps_store s rfl fun h => Store.bounded_of h.store (fun i k => .inl ?_) fun c k => .inl ?_
  · exact k.imp_right fun k => k.imp_right fun k => nomatch k
  · rcases k with ⟨_, e, _⟩ | ⟨_, e, _⟩ | k
    · exact nomatch e
    · exact nomatch e
    · exact .inr (.inr k)

theorem keeps_finishSave (s : State) : Keeps owed s { s with store := finishSave s.store } := by
  refine keeps_store s (by unfold finishSave; split <;> rfl) fun h => ?_
  refine Store.bounded_of h.store (fun i k => .inl (finishSave_keeps k)) fun c k => .inl ?_
  unfold finishSave at k
  split at k <;> exact k

theorem keeps_applyCut (c : PowerCut) (s : State) : Keeps owed s (applyCut c s) := by
  unfold applyCut
  split
  · exact .refl s
  · unfold cutBetweenCopies
    refine Keeps.ite (fun _ => keeps_store s rfl fun h => ?_) fun _ => .refl s
    refine Store.bounded_of h.store (fun i k => .inl k) fun c k => .inl ?_
    exact k.imp (fun k => by obtain ⟨_, e, _⟩ := k; exact nomatch e) id
  · exact Keeps.ite (fun _ => .of_core rfl) fun _ => .refl s

/-! ## Leaving RUNNING (R145) -/

theorem keepBegun_cons (a : Answer) (xs : List Answer) :
    keepBegun (a :: xs) = a :: xs.filter fun x => !isFull x :=
  congrArg (a :: ·) (List.filter_congr fun x _ => by cases x <;> rfl)

theorem keepBegun_full (xs : List Answer) : ((keepBegun xs).filter isFull).length ≤ (xs.filter isFull).length := by
  cases xs with
  | nil => exact le_rfl
  | cons a xs =>
    rw [keepBegun_cons]
    exact ((List.filter_sublist.cons_cons a).filter isFull).length_le

/-- The answer of an executed request is kept when the store leaves RUNNING (R158, R173). -/
theorem keepBegun_executed (xs : List Answer) :
    (keepBegun xs).filter (fun a => !isFull a) = xs.filter fun a => !isFull a := by
  cases xs with
  | nil => rfl
  | cons a xs => simp [keepBegun_cons, List.filter_cons, List.filter_filter]

/-- The engine that has stopped keeps its law: no request waits, and an executed request's answer stays formed. -/
theorem EngineOwes.stop {s t : State} (h : EngineOwes owed s) (hq : t.engine.queues = .all [])
    (hs : t.engine.state = s.engine.state)
    (ho : ∀ p, t.engine.outbox.get p = keepBegun (s.engine.outbox.get p)) : EngineOwes owed t := by
  obtain ⟨ports, -⟩ := h
  refine ⟨fun p => ?_, fun _ => hq⟩
  obtain ⟨-, full, executed⟩ := ports p
  refine ⟨by simp [hq], ?_, ?_⟩
  · exact (congrArg (fun xs => (xs.filter isFull).length) (ho p)).trans_le ((keepBegun_full _).trans full)
  · rw [hs, ← executed, executedAnswers, ho p, keepBegun_executed, executedAnswers]

theorem keeps_stopSensing (s : State) : Keeps owed s { s with assembly := stopSensing s.assembly } :=
  keeps_assembly s fun legal φ => by simpa [stopSensing, Link.classLegal] using legal φ

/-- On entering SAVING from a state that latches events, every law is kept (R145, R148). -/
theorem keeps_enterSaving (c : SaveCause) (s : State) (hs : latching s.store.state = true) :
    Keeps owed s (enterSaving c s) := by
  have stopped : Keeps owed s { s with
      store := { s.store with state := .saving, cause := c, write := .idle }, engine := stopEngine s.engine } :=
    { pending := rfl
      log := id
      counts := fun h => by
        have bounded : ({ s.store with state := .saving, cause := c, write := .idle } : Store).bounded = true :=
          Store.bounded_of h.store
            (fun i k => .inl (k.imp_right fun k => k.imp_right fun k => nomatch k)) fun c k => .inl k
        obtain ⟨registers, totals, testImport, testExport, -⟩ := h
        exact ⟨registers, totals, testImport, testExport, bounded⟩
      settings := id
      lines := fun h => LinesAgree.of_eq h hs.symm rfl rfl rfl
      curtail := id
      pulses := id
      claim := id
      engine := fun h => h.stop rfl rfl fun p => by simp [stopEngine]
      stays := fun p _ => ⟨id, fun _ => ⟨by simp [stopEngine], rfl⟩⟩ }
  exact (stopped.trans (keeps_stopSensing _)).trans (keeps_stopMeasuring _)

/-! ## The other store states (R144, R148, R151, R152) -/

theorem keeps_coldSettings {s : State} (h : SettingsLegal s) : SettingsLegal (coldDurables s) := by
  rw [settingsLegal_iff] at h ⊢
  obtain ⟨-, -, -, -, ⟨-, site, -⟩, -⟩ := h
  refine ⟨fun φ => ?_, ⟨fun φ => ?_, ?_⟩, ⟨?_, nofun⟩, ?_, ⟨?_, site, ?_, ?_, ?_⟩, ?_, ?_, ?_, ?_⟩
  · simp [coldDurables, Link.classLegal]
  · simp [coldDurables, CalibrationSet.cold, CalibrationSet.legal]
  all_goals simp [coldDurables, lengthLegal, Limit.legal]

/-- On entering RESTORING no request waits and the lines are set anew (R152, R172). -/
theorem keeps_enterRestoring (s : State) : Keeps owed s (enterRestoring s) := by
  have bounded : WhBounded s → (enterRestoring s).store.bounded = true := fun h => by
    refine Store.bounded_of h.store (fun i k => .inl ?_) fun c k => .inl ?_
    · rcases k with k | k | k
      · refine .inl (.trans ?_ k)
        unfold enterRestoring
        dsimp only
        split <;> rfl
      · exact .inl (noticeFor_image k)
      · exact nomatch k
    · by_cases cold : (noticeFor s.store).kind = .cold <;> simp only [enterRestoring, cold] at k
      · rcases k with ⟨_, e, _⟩ | ⟨_, e, _⟩ | k | k | k
        · exact nomatch e
        · exact nomatch e
        · exact .inr (.inr (.inl k))
        · exact .inr (.inr (.inr (.inl k)))
        · exact noticeFor_checkpoint k
      · rcases k with k | k | k | k | k
        · exact .inl k
        · exact .inr (.inl k)
        · exact .inr (.inr (.inl k))
        · exact .inr (.inr (.inr (.inl k)))
        · exact noticeFor_checkpoint k
  by_cases cold : (noticeFor s.store).kind = .cold
  · have e : enterRestoring s = setLines { coldDurables s with
        store := { (coldDurables s).store with
          state := .restoring, mark := false, write := .idle, lastCopy := none, found := validCopy s.store
          notice := noticeFor s.store, waiting := blocks }
        engine := { (coldDurables s).engine with latches := .all 0#15, queues := .all [] } } := by
      simp only [enterRestoring, cold, if_true]
    rw [e] at bounded ⊢
    exact
      { pending := rfl
        log := fun h => by
          obtain ⟨records, -, queue⟩ := h
          exact ⟨records, recordsLawful_nil le_rfl, queue⟩
        counts := fun h => by
          have kept := bounded h
          obtain ⟨registers, totals, testImport, testExport, -⟩ := h
          exact ⟨registers, totals, testImport, testExport, kept⟩
        settings := keeps_coldSettings
        lines := fun _ => linesAgree_setLines _
        curtail := id
        pulses := id
        claim := fun _ claimed => absurd rfl claimed
        engine := fun h => by
          obtain ⟨ports, -⟩ := h
          exact ⟨fun p => ⟨by simp, (ports p).2⟩, fun _ => rfl⟩
        stays := fun p _ => ⟨id, fun h => ⟨h.1, rfl⟩⟩ }
  · have e : enterRestoring s = setLines { s with
        store := { s.store with
          state := .restoring, mark := false, write := .idle, lastCopy := none, found := validCopy s.store
          notice := noticeFor s.store, waiting := blocks }
        engine := { s.engine with latches := .all 0#15, queues := .all [] } } := by
      simp only [enterRestoring, cold, if_false]
    rw [e] at bounded ⊢
    exact
      { pending := rfl
        log := id
        counts := fun h => by
          have kept := bounded h
          obtain ⟨registers, totals, testImport, testExport, -⟩ := h
          exact ⟨registers, totals, testImport, testExport, kept⟩
        settings := id
        lines := fun _ => linesAgree_setLines _
        curtail := id
        pulses := id
        claim := id
        engine := fun h => by
          obtain ⟨ports, -⟩ := h
          exact ⟨fun p => ⟨by simp, (ports p).2⟩, fun _ => rfl⟩
        stays := fun p _ => ⟨id, fun h => ⟨h.1, rfl⟩⟩ }

/-- On entering DORMANT the answers go, and with them what the engine was sending (R148, R158). -/
theorem keeps_enterDormant (s : State) (hs : s.store.state ≠ .running) : Keeps nothingOwed s (enterDormant s) where
  pending := rfl
  log := id
  counts h := by
    have bounded : ({ s.store with state := .dormant, write := .idle } : Store).bounded = true :=
      Store.bounded_of h.store
        (fun i k => .inl (k.imp_right fun k => k.imp_right fun k => nomatch k)) fun c k => .inl k
    obtain ⟨registers, totals, testImport, testExport, -⟩ := h
    exact ⟨registers, totals, testImport, testExport, bounded⟩
  settings := id
  lines _ := linesAgree_setLines _
  curtail _ := rfl
  pulses _ := Nat.zero_le _
  claim := id
  engine h := by
    obtain ⟨-, queues⟩ := h
    have empty : s.engine.queues = .all [] := queues (.inr hs)
    exact ⟨fun p => ⟨by simp [enterDormant, empty], by simp [fullAnswers, enterDormant],
      by simp [executedAnswers, enterDormant, nothingOwed]⟩, fun _ => empty⟩
  stays := stays_free

/-- Without VDD every block reads as after a COLD restore, but for what is nonvolatile (R148). -/
theorem keeps_losePower (s : State) : Keeps nothingOwed s (losePower s) where
  pending := rfl
  log h := by
    obtain ⟨-, committed, -⟩ := h
    exact ⟨recordsLawful_nil le_rfl, committed, nofun⟩
  counts h := by
    refine ⟨registers_zero_bounded, totals_zero_bounded, Nat.zero_lt_succ _, Nat.zero_lt_succ _, ?_⟩
    refine Store.bounded_of h.store (fun i k => .inl ?_) fun c k => .inl ?_
    · exact k.imp id fun k => k.elim nofun nofun
    · rcases k with k | k | ⟨_, e, _⟩ | e | e
      · exact .inl k
      · exact .inr (.inl k)
      · exact nomatch e
      · exact nomatch e
      · exact nomatch e
  settings h := by
    rw [settingsLegal_iff] at h ⊢
    obtain ⟨assembly, metrology, interval, day, ⟨fallback, -, envelope⟩, pulse⟩ := h
    refine ⟨fun φ => ?_, metrology, interval, day, ⟨fallback, trivial, envelope⟩, pulse⟩
    simpa [losePower, Link.classLegal] using assembly φ
  lines _ p := by cases p <;> rfl
  curtail _ := rfl
  pulses _ := Nat.zero_le _
  claim _ claimed := absurd rfl claimed
  engine _ := ⟨fun p => by cases p <;> exact ⟨Nat.zero_le _, Nat.zero_le _, rfl⟩, fun _ => rfl⟩
  stays := stays_free

theorem keeps_resetBackup (s : State) : Keeps owed s (resetBackup s) :=
  (keeps_clearCounters s).trans (.of_core rfl)

theorem latching_running {s : State} (h : s.store.state = .running) : latching s.store.state = true := by
  rw [h]
  rfl

/-- The store enters RUNNING from RESTORING with no request waiting (R153, R156). -/
theorem keeps_enterRunning (s : State) (hs : s.store.state = .restoring) : Keeps owed s (enterRunning s) where
  pending := rfl
  log := id
  counts := id
  settings := id
  lines h := LinesAgree.of_eq h (by rw [hs]; rfl) rfl rfl rfl
  curtail := id
  pulses := id
  claim := id
  engine h := by
    obtain ⟨ports, queues⟩ := h
    exact ⟨ports, fun _ => queues (.inr (by rw [hs]; decide))⟩
  stays p _ := ⟨id, fun h => ⟨PerPort.get_all _ p, h.2⟩⟩

/-! ## The restores (R19 to R173) -/

/-- A block's restore from the notice keeps the laws when the block's own table does. -/
theorem keeps_takeNotice (b : Block) {f : State → State} {s : State} (h : Keeps owed s (f s)) :
    Keeps owed s (takeNotice b f s) := by
  unfold takeNotice
  exact Keeps.ite (fun _ => h.trans (.of_core rfl)) fun _ => .refl s

theorem keeps_restoreAssembly (s : State) : Keeps owed s (restoreAssembly s) := by
  refine keeps_assembly s fun legal φ => ?_
  obtain ⟨low, high⟩ := legal φ
  simp only [Link.classLegal, restoreLink, PerPhase.get_of]
  split <;> omega

theorem keeps_restoreMetrology (s : State) : Keeps owed s (restoreMetrology s) := by
  have restored : Keeps owed s { s with metrology := (restoreMetrology s).metrology } := by
    refine keeps_metrology s fun legal => ?_
    obtain ⟨calibration, creep⟩ := legal
    by_cases cold : s.store.notice.kind = .cold <;> simp only [restoreMetrology, cold, if_true, if_false]
    · exact ⟨fun φ => by simp [CalibrationSet.cold, CalibrationSet.legal], by simp⟩
    · exact ⟨calibration, creep⟩
  exact restored.trans (.of_core rfl)

theorem restoredTotals_bounded {r : Store} (h : r.bounded = true) : (restoredTotals r.notice).bounded = true := by
  obtain ⟨images, copies⟩ := (store_bounded_iff r).mp h
  unfold restoredTotals
  split
  · exact totals_zero_bounded
  · cases hi : r.notice.image with
    | none => exact totals_zero_bounded
    | some i =>
      have bounded := images i (.inr (.inl hi))
      simp only [SaveImage.bounded, Bool.and_eq_true] at bounded
      exact bounded.2
  · cases hc : r.notice.checkpoint with
    | none => exact totals_zero_bounded
    | some c =>
      have bounded := copies c (.inr (.inr (.inr (.inr hc))))
      simp only [CheckpointContents.bounded, Bool.and_eq_true] at bounded
      exact bounded.2

theorem restoredRegisters_bounded {r : Store} (h : r.bounded = true) :
    (restoredRegisters r.notice).bounded = true := by
  obtain ⟨images, copies⟩ := (store_bounded_iff r).mp h
  unfold restoredRegisters
  split
  · exact registers_zero_bounded
  · cases hi : r.notice.image with
    | none => exact registers_zero_bounded
    | some i =>
      have bounded := images i (.inr (.inl hi))
      simp only [SaveImage.bounded, Bool.and_eq_true] at bounded
      exact bounded.1
  · cases hc : r.notice.checkpoint with
    | none => exact registers_zero_bounded
    | some c =>
      have bounded := copies c (.inr (.inr (.inr (.inr hc))))
      simp only [CheckpointContents.bounded, Bool.and_eq_true] at bounded
      exact bounded.1

theorem keeps_restoreNetting (s : State) : Keeps owed s (restoreNetting s) :=
  keeps_netting s fun h => restoredTotals_bounded h.store

theorem keeps_restoreInterval (s : State) : Keeps owed s (restoreInterval s) := by
  unfold restoreInterval
  refine Keeps.raiseIf ?_ _ _
  have opened (v : IntervalUnit) (hv : s.interval.legal → v.legal) (t : Stamp) (f : IntervalFlags) :
      Keeps owed s { s with interval := openTally t f v } :=
    keeps_interval s fun legal => openTally_legal (hv legal) _ _
  refine (opened { (if s.store.notice.kind = .cold then IntervalUnit.cold else s.interval) with
    summaries := [], statuses := [], dispatch := none } (fun legal => ?_) _ _).trans (.of_core rfl)
  by_cases cold : s.store.notice.kind = .cold <;> simp only [cold, if_true, if_false]
  · exact ⟨by simp [lengthLegal, IntervalUnit.cold], nofun⟩
  · exact legal

theorem keeps_restoreTariff (s : State) : Keeps owed s (restoreTariff s) := by
  refine keeps_tariff s (fun h => restoredRegisters_bounded h.store) (fun day => ?_) fun _ claimed => absurd rfl claimed
  by_cases cold : s.store.notice.kind = .cold <;> simp only [cold, if_true, if_false]
  · exact Nat.zero_le _
  · exact day

/-- The log's restored N is not below the N of its last commit (R114, Table 6-4). -/
theorem keeps_restoreLog (s : State) : Keeps owed s (restoreLog s) := by
  have raised : ∀ {rs n m}, recordsLawful rs n → n ≤ m → recordsLawful rs m := by
    rintro rs n m ⟨first, rising, range, slots⟩ hm
    exact ⟨first.trans hm, rising, fun r hr => ⟨(range r hr).1, (range r hr).2.trans_le hm⟩, slots⟩
  refine keeps_log s fun lawful => ?_
  obtain ⟨-, committed, -⟩ := lawful
  unfold restoredSequence
  cases hk : s.store.notice.kind
  · exact ⟨recordsLawful_nil le_rfl, recordsLawful_nil le_rfl, nofun⟩
  · exact ⟨committed, committed, nofun⟩
  · exact ⟨raised committed (Nat.le_max_right _ _), committed, nofun⟩

theorem keeps_restoreEnvelope (s : State) : Keeps owed s (restoreEnvelope s) := by
  unfold restoreEnvelope
  refine Keeps.raiseIf ?_ _ _
  refine keeps_envelope s (fun legal => ?_) fun _ => rfl
  obtain ⟨fallback, -, rest⟩ := legal
  by_cases cold : s.store.notice.kind = .cold <;> simp only [cold, if_true, if_false]
  · exact ⟨by simp [Limit.legal, Envelope.cold], trivial, by simp [Envelope.cold]⟩
  · exact ⟨fallback, trivial, rest⟩

theorem keeps_restorePulse (s : State) : Keeps owed s (restorePulse s) := by
  have restored : Keeps owed s { s with pulse := (restorePulse s).pulse } := by
    by_cases cold : s.store.notice.kind = .cold <;> simp only [restorePulse, cold, if_true, if_false]
    · exact keeps_pulse s (fun _ => by simp [Pulse.legal, Pulse.cold])
        (fun _ => ⟨Nat.zero_lt_succ _, Nat.zero_lt_succ _⟩) fun _ => Nat.zero_le _
    · exact keeps_pulse s id (fun _ => ⟨Nat.zero_lt_succ _, Nat.zero_lt_succ _⟩) fun _ => Nat.zero_le _
  exact restored.trans (.of_core rfl)

theorem keeps_restoreEngine (s : State) : Keeps nothingOwed s (restoreEngine s) where
  pending := rfl
  log := id
  counts := id
  settings := id
  lines _ := linesAgree_setLines _
  curtail := id
  pulses := id
  claim := id
  engine h := h.stop rfl rfl fun p => by simp [restoreEngine, stopEngine]
  stays := stays_free

theorem keeps_finishRestore (s : State) : Keeps owed s (finishRestore s) := by
  unfold finishRestore
  refine Keeps.raise ?_ _
  unfold setOutage
  split
  · exact .of_core rfl
  · exact Keeps.ite (fun _ => .of_core rfl) fun _ => .of_core rfl

theorem finishRestore_state (s : State) : (finishRestore s).store.state = s.store.state := by
  obtain ⟨o, a, l, f, e⟩ := finishRestore_shape s
  rw [e]

end Sys2Proof.Machine
end

section
/-! PROOF. What the owners' rules, the request engine and every command keep, and with it the four laws of every step. -/

namespace Sys2Proof.Machine

variable {owed : Port → Nat}

/-! ## Owners' rules (R162 to R165) -/

/-- Of two outcomes that both keep the laws, either does. -/
theorem Keeps.ite_outcome {c : Prop} [Decidable c] {s : State} {x y : Outcome} (hx : c → Keeps owed s x.1)
    (hy : ¬ c → Keeps owed s y.1) : Keeps owed s (if c then x else y).1 := by
  split
  · next h => exact hx h
  · next h => exact hy h

theorem keeps_stored {α : Type} {x : Option α} {put : α → State → State} {s : State}
    (h : ∀ a, x = some a → Keeps owed s (put a s)) : Keeps owed s (store x put s).1 := by
  cases x with
  | none => exact .refl s
  | some a => exact h a rfl

theorem classNamed_legal {w : Word} {c : Nat} (h : classNamed w = some c) : 1 ≤ c ∧ c ≤ 4 := by
  unfold classNamed at h
  split at h
  · next legal => exact Option.some.inj h ▸ legal
  · exact nomatch h

theorem divisorNamed_legal {w : Word} {d : Nat} (h : divisorNamed w = some d) : d ∈ [1, 10, 100, 1000] := by
  unfold divisorNamed at h
  split at h
  · next legal => exact Option.some.inj h ▸ legal
  · exact nomatch h

theorem claimEdits_of_unclaimed {u : Tariff} (h : u.claim = none) : u.claimEdits := fun claimed => absurd h claimed

theorem keeps_writeClaim (p : Port) (w : Word) (s : State) : Keeps owed s (writeClaim p w s).1 := by
  unfold writeClaim
  split
  · exact .refl s
  · refine Keeps.ite_outcome (fun _ => .refl s) fun _ => Keeps.ite_outcome (fun _ => ?_) fun _ =>
      Keeps.ite_outcome (fun _ => ?_) fun _ => .refl s
    · exact keeps_claim (takeClaim p) s rfl rfl fun _ _ => rfl
    · exact keeps_claim (fun u => { u with claim := none }) s rfl rfl fun _ => claimEdits_of_unclaimed rfl

theorem keeps_takeClaimFrom (p : Port) (h : Option Port) (s : State) : Keeps owed s (takeClaimFrom p h s) := by
  have taken : Keeps owed s (onTariff (takeClaim p) s) := keeps_claim (takeClaim p) s rfl rfl fun _ _ => rfl
  unfold takeClaimFrom
  split
  · exact Keeps.ite (fun _ => .refl s) fun _ => taken.raiseFor _ _
  · exact taken

theorem keeps_exchangeClaim (p : Port) (expected new : Word) (s : State) :
    Keeps owed s (exchangeClaim p expected new s).1 := by
  unfold exchangeClaim
  split
  · exact .refl s
  · refine Keeps.ite_outcome (fun _ => .refl s) fun _ => Keeps.ite_outcome (fun _ => ?_) fun _ =>
      Keeps.ite_outcome (fun _ => ?_) fun _ => .refl s
    · exact keeps_takeClaimFrom p _ s
    · exact keeps_claim (fun u => { u with claim := none }) s rfl rfl fun _ => claimEdits_of_unclaimed rfl

theorem keeps_writePending (p : Port) (c : Option Schedule) (s : State) : Keeps owed s (writePending p c s).1 :=
  Keeps.ite_outcome (fun _ => keeps_stored fun _ _ => .of_core rfl) fun _ => .refl s

theorem keeps_writeScheduleEntry (p : Port) (w : Word) (s : State) :
    Keeps owed s (writeScheduleEntry p w s).1 := by
  unfold writeScheduleEntry
  split
  · exact .refl s
  · exact .refl s
  · exact keeps_writePending p _ s

theorem keeps_setFreezeDay {f : Nat} (hf : f ≤ 28) (s : State) : Keeps owed s (onTariff (setFreezeDay f) s) := by
  refine keeps_tariff s ?_ ?_ ?_ <;> unfold setFreezeDay <;> split
  · exact WhBounded.registers
  · exact WhBounded.registers
  · exact id
  · exact fun _ => hf
  · exact id
  · exact id

/-- A new enable set comes with its attention line (R171, R172). -/
theorem keeps_setEnable (p : Port) (x : EventSet) (s : State) : Keeps owed s (setEnable p x s) :=
  ⟨⟨rfl, id, id, id, fun _ => linesAgree_setLines _, id, id, id⟩, id, fun _ _ => ⟨id, id⟩⟩

theorem keeps_clearLatch (p : Port) (s : State) : Keeps owed s (clearLatch p s) :=
  ⟨⟨rfl, id, id, id, fun _ => linesAgree_setLines _, id, id, id⟩, id, fun _ _ => ⟨id, id⟩⟩

theorem keeps_setRight (row : Port) (x : Group) (r : Right) (s : State) : Keeps owed s (setRight row x r s) := by
  have put : Keeps owed s { s with engine := { s.engine with rights := putRight row x r s.engine.rights } } :=
    .of_core rfl
  unfold setRight
  exact Keeps.ite (fun _ => put.trans (keeps_loseClaim row _)) fun _ => put

/-- Every WRITE of an object keeps the laws, each setting by its own range (Table 11-1, R162). -/
theorem keeps_writeObject (p : Port) (o : Obj) (w : Word) (s : State) : Keeps owed s (writeObject p o w s).1 := by
  cases o with
  | identityUpper | identityLower => exact .of_core rfl
  | phasesInUse => exact keeps_stored fun v _ => keeps_setPhasesInUse v s
  | configuredClass φ => exact keeps_stored fun c hc => keeps_setConfiguredClass φ (classNamed_legal hc) s
  | gain φ x =>
    exact keeps_stored fun g hg => keeps_setCalibration φ s fun legal => storeGain_legal legal x (gainNamed_le hg)
  | offset φ x =>
    exact keeps_setCalibration φ s fun legal => storeOffset_legal legal x (offsetOperand_abs w)
  | creepThreshold =>
    refine keeps_metrology s fun legal => ?_
    obtain ⟨calibration, -⟩ := legal
    exact ⟨calibration, (clampNat_bounds 0 500 (by decide) w).2⟩
  | basis => exact Keeps.ite_outcome (fun _ => keeps_stored fun b _ => .of_core rfl) fun _ => .refl s
  | claim => exact keeps_writeClaim p w s
  | scheduleEntry => exact keeps_writeScheduleEntry p w s
  | pendingItem i => exact keeps_writePending p _ s
  | intervalLength => exact keeps_stored fun m hm => keeps_setPendingLength (intervalLengthNamed_legal hm) s
  | fallback =>
    refine keeps_envelope s (fun legal => ?_) id
    obtain ⟨-, rest⟩ := legal
    exact ⟨limitOperand_legal w, rest⟩
  | siteLimit =>
    refine keeps_envelope s (fun legal => ?_) id
    obtain ⟨fallback, -, rest⟩ := legal
    exact ⟨fallback, limitOperand_legal w, rest⟩
  | grace =>
    refine keeps_envelope s (fun legal => ?_) id
    obtain ⟨fallback, site, -, rest⟩ := legal
    exact ⟨fallback, site, clampNat_bounds 1 60 (by decide) w, rest⟩
  | band =>
    refine keeps_envelope s (fun legal => ?_) id
    obtain ⟨fallback, site, grace, -, hold⟩ := legal
    exact ⟨fallback, site, grace, (clampNat_bounds 0 5000 (by decide) w).2, hold⟩
  | hold =>
    refine keeps_envelope s (fun legal => ?_) id
    obtain ⟨fallback, site, grace, band, -⟩ := legal
    exact ⟨fallback, site, grace, band, clampNat_bounds 1 600 (by decide) w⟩
  | activeLevel => exact keeps_stored fun b _ => .of_core rfl
  | freezeDay => exact Keeps.ite_outcome (fun h => keeps_setFreezeDay h s) fun _ => .refl s
  | freezeOnActivation => exact keeps_stored fun b _ => .of_core rfl
  | divisor =>
    refine Keeps.ite_outcome (fun _ => .refl s) fun _ => keeps_stored fun d hd => ?_
    refine keeps_pulse s (fun legal => ?_) id id
    obtain ⟨active, gap, timeout, -⟩ := legal
    exact ⟨active, gap, timeout, divisorNamed_legal hd⟩
  | timeout =>
    refine keeps_pulse s (fun legal => ?_) id id
    obtain ⟨active, gap, -, divisor⟩ := legal
    exact ⟨active, gap, clampNat_bounds 1 240 (by decide) w, divisor⟩
  | pulseSource => exact keeps_stored fun x _ => .of_core rfl
  | activeWidth =>
    refine keeps_pulse s (fun legal => ?_) id id
    obtain ⟨-, rest⟩ := legal
    exact ⟨clampNat_bounds 2 500 (by decide) w, rest⟩
  | gapWidth =>
    refine keeps_pulse s (fun legal => ?_) id id
    obtain ⟨active, -, rest⟩ := legal
    exact ⟨active, clampNat_bounds 2 500 (by decide) w, rest⟩
  | enable => exact keeps_stored fun x _ => keeps_setEnable p x s
  | right row x => exact Keeps.ite_outcome (fun _ => keeps_stored fun r _ => keeps_setRight row x r s) fun _ => .refl s
  | _ => exact .refl s

theorem keeps_presentValue (s : State) (p : Port) (o : Obj) : Keeps owed s (presentValue s p o).1 := by
  unfold presentValue
  split
  · exact .refl s
  · exact .refl s
  · exact .of_core rfl
  · exact .of_core rfl

theorem keeps_exchangeObject (p : Port) (o : Obj) (expected new : Word) (s : State) :
    Keeps owed s (exchangeObject p o expected new s).1 := by
  have present := keeps_presentValue (owed := owed) s p o
  unfold exchangeObject
  split
  · exact keeps_exchangeClaim p expected new s
  · exact .refl s
  · split
    · next s' c e => rw [e] at present; exact present
    · next s' w e =>
      rw [e] at present
      exact Keeps.ite_outcome (fun _ => present.trans (keeps_writeObject p o new s')) fun _ => present

theorem keeps_checkObject (p : Port) (o : Obj) (expected mask : Word) (s : State) :
    Keeps owed s (checkObject p o expected mask s).1 := by
  have present := keeps_presentValue (owed := owed) s p o
  unfold checkObject
  split
  all_goals
    next e => rw [e] at present; exact present

theorem keeps_modifyObject (p : Port) (o : Obj) (mask value : Word) (s : State) :
    Keeps owed s (modifyObject p o mask value s).1 := by
  unfold modifyObject modifyEnable
  split
  · split
    · exact keeps_setEnable p _ s
    · exact .refl s
  · exact .refl s

theorem keeps_readObjects (p : Port) (o : Obj) (k : Nat) (s : State) : Keeps owed s (readObjects p o k s).1 :=
  Keeps.ite (fun _ => keeps_clearLatch p s) fun _ => .refl s

theorem keeps_commandArm (p : Port) (day minute : Word) (s : State) :
    Keeps owed s (commandArm p day minute s).1 := by
  unfold commandArm
  refine Keeps.ite_outcome (fun _ => .refl s) fun _ => Keeps.ite_outcome (fun _ => .refl s) fun _ => ?_
  split
  · exact .refl s
  · exact keeps_claim (armSchedule _) s rfl rfl fun _ => claimEdits_of_unclaimed rfl

theorem keeps_disarmSchedule (s : State) : Keeps owed s (onTariff disarmSchedule s) := by
  unfold disarmSchedule
  refine keeps_claim _ s ?_ ?_ fun edits => ?_ <;> split
  · rfl
  · rfl
  · rfl
  · rfl
  · exact fun _ => rfl
  · exact edits

theorem keeps_commandReadNext (p : Port) (s : State) : Keeps owed s (commandReadNext p s).1 := by
  unfold commandReadNext
  refine Keeps.ite_outcome (fun _ => ?_) fun _ => .refl s
  split
  · exact .of_core rfl
  · exact .refl s

theorem keeps_commandLinkRestart (w : Word) (s : State) : Keeps owed s (commandLinkRestart w s).1 := by
  unfold commandLinkRestart
  split
  · exact .refl s
  · exact Keeps.ite_outcome (fun _ => keeps_restartLink _ s) fun _ => .refl s

/-- Every COMMAND given to a store that latches events keeps the laws (R165). -/
theorem keeps_commandObject (p : Port) (o : Obj) (a b : Word) (s : State) (hs : latching s.store.state = true) :
    Keeps owed s (commandObject p o a b s).1 := by
  cases o with
  | linkRestart => exact keeps_commandLinkRestart a s
  | clearLinkCounters => exact keeps_clearCounters s
  | arm => exact keeps_commandArm p a b s
  | disarm => exact Keeps.ite_outcome (fun _ => keeps_disarmSchedule s) fun _ => .refl s
  | discard =>
    refine Keeps.ite_outcome (fun _ => ?_) fun _ => .refl s
    exact keeps_claim discardSchedule s rfl rfl fun _ => claimEdits_of_unclaimed rfl
  | timeSet => exact Keeps.ite_outcome (fun _ => .of_core rfl) fun _ => .refl s
  | timeAdjust => exact Keeps.ite_outcome (fun _ => keeps_stored fun _ _ => .of_core rfl) fun _ => .refl s
  | setTerm => exact Keeps.ite_outcome (fun _ => .of_core rfl) fun _ => .refl s
  | startOldest | startNewest | logStop => exact .of_core rfl
  | startAt => exact keeps_stored fun _ _ => .of_core rfl
  | readNext => exact keeps_commandReadNext p s
  | freeze => exact Keeps.ite_outcome (fun _ => .refl s) fun _ => .of_core rfl
  | testOn =>
    refine Keeps.ite_outcome (fun _ => Keeps.ite_outcome (fun _ => .of_core rfl) fun _ => ?_) fun _ => .refl s
    exact keeps_enterTest s
  | testOff => exact Keeps.ite_outcome (fun _ => keeps_endTest .command s) fun _ => .refl s
  | totalsClear => exact keeps_clearTotals s
  | logClear =>
    refine Keeps.ite_outcome (fun _ => Keeps.ite_outcome (fun _ => ?_) fun _ => .refl s) fun _ => .refl s
    exact keeps_clearLog s
  | restart => exact Keeps.ite_outcome (fun _ => keeps_enterSaving .restart s hs) fun _ => .refl s
  | clearAll => exact Keeps.ite_outcome (fun _ => keeps_enterSaving .clearAll s hs) fun _ => .refl s
  | _ => exact .refl s

/-! ## The request engine (R156 to R160) -/

theorem keeps_ownerActs (p : Port) (k : Kind) (o : Obj) (r : Request) (s : State)
    (hs : latching s.store.state = true) : Keeps owed s (ownerActs p k o r s).1 := by
  cases k with
  | read => exact keeps_readObjects p o _ s
  | write => exact keeps_writeObject p o _ s
  | modify => exact keeps_modifyObject p o _ _ s
  | check => exact keeps_checkObject p o _ _ s
  | exchange => exact keeps_exchangeObject p o _ _ s
  | select => exact keeps_stored fun _ _ => .of_core rfl
  | command => exact keeps_commandObject p o _ _ s hs

theorem keeps_executeRequest (p : Port) (r : Request) (s : State) (hs : latching s.store.state = true) :
    Keeps owed s (executeRequest p r s).1 := by
  unfold executeRequest
  split
  · exact .refl s
  · refine Keeps.ite_outcome (fun _ => .refl s) fun _ => ?_
    split
    · exact .refl s
    · refine Keeps.ite_outcome (fun _ => .refl s) fun _ => Keeps.ite_outcome (fun _ => .refl s) fun _ =>
        Keeps.ite_outcome (fun _ => .refl s) fun _ => ?_
      exact keeps_ownerActs p _ _ r s hs

/-- The port that the engine serves is owed one answer. -/
def owedTo (p : Port) : Port → Nat := fun q => if q = p then 1 else 0

/-- An answer formed for the port that is owed one settles the debt (R158). -/
theorem EngineOwes.form {s : State} {p : Port} (h : EngineOwes (owedTo p) s) (tag : Byte) (reply : Reply) :
    EngineOwes nothingOwed (formAnswer p (.executed tag reply) s) := by
  obtain ⟨ports, queues⟩ := h
  refine ⟨fun q => ?_, queues⟩
  obtain ⟨few, full, executed⟩ := ports q
  by_cases e : q = p
  · subst e
    refine ⟨few, ?_, Eq.trans ?_ executed⟩
    · simpa [fullAnswers, formAnswer, List.filter_append, isFull] using full
    · simp [executedAnswers, formAnswer, List.filter_append, isFull, owedTo, nothingOwed]
  · refine ⟨few, ?_, Eq.trans ?_ executed⟩
    · simpa [fullAnswers, formAnswer, PerPort.get_set_ne _ _ e] using full
    · simp [executedAnswers, formAnswer, PerPort.get_set_ne _ _ e, owedTo, nothingOwed, e]

/-- A FULL answer formed for a port that has none unsent (R157). -/
theorem EngineOwes.formFull {s : State} {p : Port} (h : EngineOwes owed s) (tag : Byte)
    (none : (s.engine.outbox.get p).any isFull = false) : EngineOwes owed (formAnswer p (.full tag) s) := by
  obtain ⟨ports, queues⟩ := h
  refine ⟨fun q => ?_, queues⟩
  obtain ⟨few, full, executed⟩ := ports q
  by_cases e : q = p
  · subst e
    have empty : (s.engine.outbox.get q).filter isFull = [] :=
      List.filter_eq_nil_iff.mpr fun a ha => List.any_eq_false.mp none a ha
    refine ⟨few, ?_, Eq.trans ?_ executed⟩
    · simp [fullAnswers, formAnswer, List.filter_append, List.filter_cons, isFull, empty]
    · simp [executedAnswers, formAnswer, List.filter_append, isFull]
  · refine ⟨few, ?_, Eq.trans ?_ executed⟩
    · simpa [fullAnswers, formAnswer, PerPort.get_set_ne _ _ e] using full
    · simp [executedAnswers, formAnswer, PerPort.get_set_ne _ _ e]

/-- An engine that is IDLE owes no answer; once it serves a port it owes that port one (R159). -/
theorem PortsOwe.begin {s : State} {p : Port} {r : Request} {rest : List Request} (h : PortsOwe nothingOwed s)
    (idle : s.engine.state = .idle) (running : s.store.state = .running) (hq : s.engine.queues.get p = r :: rest) :
    EngineOwes (owedTo p) (beginServing p rest s) := by
  refine ⟨fun q => ?_, fun k => k.elim nofun fun k => absurd running k⟩
  obtain ⟨few, full, executed⟩ := h q
  simp only [idle, reduceCtorEq, if_false, nothingOwed, Nat.add_zero] at executed
  have settled : executedAnswers (beginServing p rest s) q = 0 := executed
  refine ⟨?_, full, ?_⟩
  · by_cases e : q = p
    · subst e
      rw [hq, List.length_cons] at few
      simp only [beginServing, PerPort.get_set_same]
      omega
    · simpa [beginServing, PerPort.get_set_ne _ _ e] using few
  · rw [settled]
    by_cases e : q = p
    · subst e
      simp [owedTo, beginServing]
    · simp [owedTo, beginServing, e, Ne.symm e]

/-- The laws of the blocks read nothing of the queues, of what the engine serves, and of the answers. -/
theorem keepsBlocks_engine {s t : State} (e : ∃ f q p x o b, t = { s with engine := { s.engine with
    frontEnds := f, queues := q, pointer := p, state := x, outbox := o, txd := b } }) : KeepsBlocks s t := by
  obtain ⟨f, q, p, x, o, b, rfl⟩ := e
  exact ⟨rfl, id, id, id, id, id, id, id⟩

theorem keepsBlocks_serve (p : Port) (r : Request) (rest : List Request) (s : State)
    (running : s.store.state = .running) : KeepsBlocks s (serve p r rest s) := by
  have begins : KeepsBlocks s (beginServing p rest s) := keepsBlocks_engine ⟨_, _, _, _, _, _, rfl⟩
  have executes : Keeps nothingOwed (beginServing p rest s) (executeRequest p r (beginServing p rest s)).1 :=
    keeps_executeRequest p r _ (latching_running running)
  exact (begins.trans executes.toKeepsBlocks).trans (keepsBlocks_engine ⟨_, _, _, _, _, _, rfl⟩)

theorem keepsBlocks_arbitrate (s : State) : KeepsBlocks s (arbitrate s) := by
  unfold arbitrate
  split
  · next h =>
    split
    · exact .refl s
    · split
      · exact .refl s
      · exact keepsBlocks_serve _ _ _ s h.2
  · exact .refl s

/-- No port is next exactly when no request waits (R159). -/
theorem queues_of_nextPort_none {g : Engine} (h : nextPort g = none) : g.queues = .all [] := by
  refine PerPort.ext_get fun p => ?_
  have waiting := List.find?_eq_none.mp h p (by cases g.pointer <;> cases p <;> decide)
  simpa using waiting

/-- The arbiter restores the engine's law: an IDLE engine in RUNNING takes a request while one waits (R159). -/
theorem engineOwes_arbitrate {s : State} (h : PortsOwe nothingOwed s)
    (hq : s.store.state ≠ .running → s.engine.queues = .all []) : EngineOwes nothingOwed (arbitrate s) := by
  unfold arbitrate
  split
  · next free =>
    obtain ⟨idle, running⟩ := free
    split
    · next hn => exact ⟨h, fun _ => queues_of_nextPort_none hn⟩
    · next p hn =>
      have waits : ¬ (s.engine.queues.get p).isEmpty = true := by simpa using List.find?_some hn
      split
      · next he => exact absurd (by rw [he]; rfl) waits
      · next r rest hr =>
        have executes : Keeps (owedTo p) (beginServing p rest s) (executeRequest p r (beginServing p rest s)).1 :=
          keeps_executeRequest p r _ (latching_running running)
        exact (executes.engine (h.begin idle running hr)).form _ _
  · next busy =>
    refine ⟨h, fun k => hq fun running => ?_⟩
    exact k.elim (fun idle => busy ⟨idle, running⟩) fun stopped => stopped running

theorem keeps_setFrontEnd (p : Port) (x : FrontEnd) (s : State) : Keeps nothingOwed s (setFrontEnd p x s) :=
  ⟨keepsBlocks_engine ⟨_, _, _, _, _, _, rfl⟩, id, stays_free⟩

/-- A request that arrives at a part whose engine keeps its law is taken, queued, answered FULL or dropped (R157). -/
theorem keeps_submit (p : Port) (r : Request) (s : State) : Keeps nothingOwed s (submit p r s) := by
  unfold submit
  refine Keeps.ite (fun running => (keeps_setFrontEnd p .hunt s).trans ?_) fun _ => .refl s
  unfold enqueue
  refine Keeps.ite (fun few => ?_) fun _ => Keeps.ite (fun _ => .refl _) fun none => ?_
  · refine ⟨(keepsBlocks_engine ⟨_, _, _, _, _, _, rfl⟩).trans (keepsBlocks_arbitrate _), fun h => ?_, stays_free⟩
    obtain ⟨ports, -⟩ := h
    refine engineOwes_arbitrate (fun q => ?_) fun stopped => absurd running stopped
    obtain ⟨short, rest⟩ := ports q
    refine ⟨?_, rest⟩
    by_cases e : q = p
    · subst e
      simpa [queueLimit] using Nat.succ_le_of_lt few
    · simpa [PerPort.get_set_ne _ _ e] using short
  · exact ⟨keepsBlocks_engine ⟨_, _, _, _, _, _, rfl⟩, fun h => h.formFull _ (Bool.not_eq_true _ ▸ none),
      stays_free⟩

/-- The answer of an executed request leaves the port for which the engine is SENDING (R158). -/
theorem keeps_answerSent {p : Port} {tag : Byte} {reply : Reply} {rest : List Answer} (s : State)
    (hs : s.engine.state = .sending p) (ho : s.engine.outbox.get p = .executed tag reply :: rest) :
    Keeps nothingOwed s (arbitrate { sendHead p (.executed tag reply) rest s with
      engine := { (sendHead p (.executed tag reply) rest s).engine with state := .idle } }) := by
  refine ⟨(keepsBlocks_engine ⟨_, _, _, _, _, _, rfl⟩).trans (keepsBlocks_arbitrate _), fun h => ?_, stays_free⟩
  obtain ⟨ports, queues⟩ := h
  refine engineOwes_arbitrate (fun q => ?_) fun stopped => queues (.inr stopped)
  obtain ⟨few, full, executed⟩ := ports q
  by_cases e : q = p
  · subst e
    simp only [fullAnswers, executedAnswers, ho, hs, List.filter_cons, isFull, nothingOwed] at full executed
    refine ⟨few, ?_, ?_⟩
    · simpa [fullAnswers, sendHead, isFull] using full
    · simpa [executedAnswers, sendHead, nothingOwed, isFull] using executed
  · have ne : ¬ s.engine.state = .sending q := by rw [hs]; simpa using Ne.symm e
    rw [if_neg ne] at executed
    refine ⟨few, ?_, ?_⟩
    · simpa [fullAnswers, sendHead, PerPort.get_set_ne _ _ e] using full
    · simpa [executedAnswers, sendHead, PerPort.get_set_ne _ _ e] using executed

/-- A FULL answer at the head of an outbox leaves it (R158). -/
theorem keeps_fullSent {p : Port} {tag : Byte} {rest : List Answer} (s : State)
    (ho : s.engine.outbox.get p = .full tag :: rest) :
    Keeps nothingOwed s (sendHead p (.full tag) rest s) := by
  refine ⟨keepsBlocks_engine ⟨_, _, _, _, _, _, rfl⟩, fun h => ?_, stays_free⟩
  obtain ⟨ports, queues⟩ := h
  refine ⟨fun q => ?_, queues⟩
  obtain ⟨few, full, executed⟩ := ports q
  by_cases e : q = p
  · subst e
    have shorter : fullAnswers s q = fullAnswers (sendHead q (.full tag) rest s) q + 1 := by
      simp [fullAnswers, sendHead, ho, List.filter_cons, isFull]
    refine ⟨few, by omega, Eq.trans ?_ executed⟩
    simp [executedAnswers, sendHead, ho, isFull]
  · refine ⟨few, ?_, Eq.trans ?_ executed⟩
    · simpa [fullAnswers, sendHead, PerPort.get_set_ne _ _ e] using full
    · simp [executedAnswers, sendHead, PerPort.get_set_ne _ _ e]

/-! ## The commands -/

theorem keeps_openEnable (s : State) : Keeps owed s (openEnable s) := by
  unfold openEnable
  exact Keeps.ite (fun _ => (keeps_endTest .switch s).trans (keeps_loseClaim .service _)) fun _ =>
    keeps_endTest .switch s

theorem keeps_changeCalen (closed : Bool) (s : State) : Keeps owed s (changeCalen closed s) := by
  have changed : Keeps owed s { s with engine := { s.engine with calen := closed } } := .of_core rfl
  unfold changeCalen
  refine Keeps.ite (fun _ => .refl s) fun _ => Keeps.ite (fun _ => ?_) fun _ => changed
  have raised : Keeps owed s (raise .calSwitch
      { s with engine := { s.engine with calen := closed, enable := closed } }) := by
    refine Keeps.raise ?_ _
    exact .of_core rfl
  exact Keeps.ite (fun _ => raised) fun _ => raised.trans (keeps_openEnable _)

/-- A command answers a next state in which every law of the state before it holds. -/
def KeptAfter (s : State) (r : StepResult) : Prop := ∃ t, r = .next t ∧ Keeps nothingOwed s t

theorem keptAfter_next {s t : State} (h : Keeps nothingOwed s t) : KeptAfter s (.next t) := ⟨t, rfl, h⟩

theorem execSampleSetTake_keeps (s : State) : KeptAfter s (execSampleSetTake s) := by
  refine keptAfter_next ?_
  split
  · exact .refl s
  · refine Keeps.trans ?_ (keeps_takeSet _ _)
    exact .of_core rfl

theorem execBoundaryNotice_keeps (s : State) : KeptAfter s (execBoundaryNotice s) := by
  refine keptAfter_next ?_
  split
  · exact .refl s
  · next b bs _ =>
    have closed : Keeps nothingOwed s (closeWhenComplete { s with
        metrology := { s.metrology with notices := s.metrology.notices ++ [b] }
        wires := { s.wires with notices := bs } }) := by
      refine Keeps.trans ?_ (keeps_closeWhenComplete _)
      exact .of_core rfl
    exact Keeps.ite (fun _ => closed.trans (keeps_releaseSets _)) fun _ => closed

theorem execIntervalDispatchArrival_keeps (s : State) : KeptAfter s (execIntervalDispatchArrival s) := by
  refine keptAfter_next ?_
  split
  · exact .refl s
  · refine Keeps.ite (fun _ => .refl s) fun _ => Keeps.trans ?_ (keeps_joinSecond _)
    exact .of_core rfl

theorem execPulseHandOff_keeps (s : State) : KeptAfter s (execPulseHandOff s) := by
  refine keptAfter_next ?_
  split
  · exact .refl s
  · next h hs _ =>
    have arrived : Keeps nothingOwed s { s with wires := { s.wires with handOffs := hs } } := .of_core rfl
    exact Keeps.ite (fun _ => arrived) fun _ => arrived.trans (keeps_takeHandOff h _)

theorem execRecordIntake_keeps (s : State) : KeptAfter s (execRecordIntake s) := by
  refine keptAfter_next ?_
  split
  · exact .refl s
  · refine Keeps.ite (fun _ => .refl s) fun _ => Keeps.trans ?_ (keeps_takeRecord _ _)
    exact .of_core rfl

theorem execCommitComplete_keeps (s : State) : KeptAfter s (execCommitComplete s) := by
  unfold execCommitComplete
  split
  · exact keptAfter_next (.refl s)
  · next e es hq => exact keptAfter_next ((keeps_commit s hq).trans (.of_core rfl))

theorem execCheckpointNotice_keeps (s : State) : KeptAfter s (execCheckpointNotice s) := by
  refine keptAfter_next (Keeps.ite (fun _ => .refl s) fun _ => Keeps.ite (fun _ => ?_) fun _ => ?_)
  · have waits : Keeps nothingOwed s { s with store := { s.store with pendingCopy := some (checkpointOf s) } } := by
      refine keeps_store s rfl fun h => Store.bounded_of h.store (fun i k => .inl k) fun c k => ?_
      rcases k with k | k | k | k | k
      · exact .inl (.inl k)
      · exact .inl (.inr (.inl k))
      · exact .inl (.inr (.inr (.inl k)))
      · exact .inr (Option.some.inj k ▸ checkpointOf_bounded h)
      · exact .inl (.inr (.inr (.inr (.inr k))))
    exact waits.trans (.of_core rfl)
  · exact (keeps_beginCopy s).trans (.of_core rfl)

theorem execSupokFall_keeps (s : State) : KeptAfter s (execSupokFall s) := by
  have fallen : Keeps nothingOwed s { s with store := { s.store with supok := false } } := .of_core rfl
  exact keptAfter_next (Keeps.ite
    (fun running => fallen.trans (keeps_enterSaving .supply _ (latching_running (s := s) running))) fun _ => fallen)

theorem execSupokRise_keeps (s : State) : KeptAfter s (execSupokRise s) := by
  have risen : Keeps nothingOwed s { s with store := { s.store with supok := true } } := .of_core rfl
  exact keptAfter_next (Keeps.ite (fun _ => risen.trans (keeps_enterRestoring _)) fun _ => risen)

theorem execSaveStart_keeps (s : State) : KeptAfter s (execSaveStart s) :=
  keptAfter_next (Keeps.ite (fun _ => Keeps.ite (fun _ => keeps_clearBegun s) fun _ => keeps_saveBegun s)
    fun _ => .refl s)

theorem execSaveComplete_keeps (s : State) : KeptAfter s (execSaveComplete s) := by
  refine keptAfter_next (Keeps.ite (fun due => ?_) fun _ => .refl s)
  have state : (finishSave s.store).state = s.store.state := by unfold finishSave; split <;> rfl
  refine Keeps.ite (fun _ => (keeps_finishSave s).trans (keeps_enterRestoring _)) fun _ =>
    (keeps_finishSave s).trans (keeps_enterDormant _ ?_)
  change (finishSave s.store).state ≠ .running
  rw [state, due.1]
  decide

theorem execPowerUp_keeps (supokHigh : Bool) (s : State) : KeptAfter s (execPowerUp supokHigh s) := by
  refine keptAfter_next (Keeps.ite (fun unpowered => ?_) fun _ => .refl s)
  have dormant : Keeps nothingOwed s
      (enterDormant { s with store := { s.store with supok := supokHigh, cause := .supply } }) := by
    refine Keeps.trans ?_ (keeps_enterDormant _ ?_)
    · exact .of_core rfl
    · change s.store.state ≠ .running
      rw [unpowered]
      decide
  exact Keeps.ite (fun _ => dormant.trans (keeps_enterRestoring _)) fun _ => dormant

theorem execBackupDomainLoss_keeps (s : State) : KeptAfter s (execBackupDomainLoss s) := by
  have lost : Keeps nothingOwed s (if s.store.state = .unpowered then s else losePower s) :=
    Keeps.ite (fun _ => .refl s) fun _ => keeps_losePower s
  exact keptAfter_next (lost.trans (keeps_resetBackup _))

theorem execRestoreComplete_keeps (s : State) : KeptAfter s (execRestoreComplete s) := by
  have finished : Keeps nothingOwed s (finishRestore s) := keeps_finishRestore s
  obtain ⟨restoring, -, -, e⟩ | ⟨-, e⟩ := execRestoreComplete_cases s
  · have state : (finishRestore s).store.state = .restoring := (finishRestore_state s).trans restoring
    rw [e]
    refine keptAfter_next (Keeps.ite (fun _ => finished.trans (keeps_enterRunning _ state)) fun _ =>
      finished.trans (keeps_enterSaving .supply _ ?_))
    rw [state]
    rfl
  · rw [e]
    exact keptAfter_next (.refl s)

theorem execRequestFrame_keeps (p : Port) (body : List Byte) (check : BitVec 16) (s : State) :
    KeptAfter s (execRequestFrame p body check s) :=
  keptAfter_next (Keeps.ite (fun _ => Keeps.ite (fun _ => keeps_submit p _ s) fun _ => keeps_setFrontEnd p _ s)
    fun _ => .refl s)

theorem execAnswerSent_keeps (s : State) : KeptAfter s (execAnswerSent s) := by
  unfold execAnswerSent
  split
  · exact keptAfter_next (.refl s)
  · next p hs =>
    split
    · next tag reply rest ho => exact keptAfter_next (keeps_answerSent s hs ho)
    · exact keptAfter_next (.refl s)

theorem execFullAnswerSent_keeps (p : Port) (s : State) : KeptAfter s (execFullAnswerSent p s) := by
  unfold execFullAnswerSent
  split
  · next tag rest ho => exact keptAfter_next (keeps_fullSent s ho)
  · exact keptAfter_next (.refl s)

/-- A command that is a request arrives as one (R156). -/
theorem exec_request_keeps {c : Instr} {f : Sender} (hf : requestSender c = some f) (s : State) :
    KeptAfter s (exec c s) := by
  obtain ⟨r, -, e⟩ := exec_request hf
  rw [e]
  exact keptAfter_next (keeps_submit f.port r s)

/-- Every event of the part keeps the laws. -/
theorem exec_event_keeps {c : Instr} (hc : requestSender c = none) (s : State) : KeptAfter s (exec c s) := by
  cases c with
  | strobeIssue | identifyCountdownExpiry | missingRunExpiry | substitutionRunExpiry | secondBoundary
  | testTimerExpiry => exact keptAfter_next (Keeps.ite (fun _ => keeps_issueStrobe s) fun _ => .refl s)
  | upstreamFrame φ bytes => exact keptAfter_next (keeps_receiveFrame φ bytes s)
  | sampleSetTake => exact execSampleSetTake_keeps s
  | boundaryNotice => exact execBoundaryNotice_keeps s
  | nettingSummaryArrival =>
    refine keptAfter_next ?_
    split
    · exact .refl s
    · refine Keeps.trans ?_ (keeps_nettingSummary _ _)
      exact .of_core rfl
  | dispatchAcknowledgment =>
    refine keptAfter_next ?_
    split
    · exact .refl s
    · refine Keeps.trans ?_ (keeps_takeAcknowledgment _ _)
      exact .of_core rfl
  | tariffDispatch =>
    refine keptAfter_next ?_
    split
    · exact .refl s
    · refine Keeps.trans ?_ (keeps_takeTariffDispatch _ _)
      exact .of_core rfl
  | intervalSummaryArrival =>
    refine keptAfter_next ?_
    split
    · exact .refl s
    · refine Keeps.trans ?_ (keeps_joinSecond _)
      exact .of_core rfl
  | envelopeStatusArrival =>
    refine keptAfter_next ?_
    split
    · exact .refl s
    · refine Keeps.trans ?_ (keeps_joinSecond _)
      exact .of_core rfl
  | intervalDispatchArrival => exact execIntervalDispatchArrival_keeps s
  | envelopeSummaryArrival => exact keptAfter_next (keeps_envelopeSummary s)
  | termLapse | graceExpiry | holdExpiry =>
    exact keptAfter_next (Keeps.ite (fun _ => keeps_envelopeSummary s) fun _ => .refl s)
  | pulseHandOff => exact execPulseHandOff_keeps s
  | activePeriodEnd => exact keptAfter_next (Keeps.ite (fun _ => .of_core rfl) fun _ => .refl s)
  | gapPeriodEnd =>
    exact keptAfter_next (Keeps.ite (fun _ => Keeps.ite (fun _ => keeps_startPulse s) fun _ => .of_core rfl)
      fun _ => .refl s)
  | recordIntake => exact execRecordIntake_keeps s
  | commitComplete => exact execCommitComplete_keeps s
  | checkpointNotice => exact execCheckpointNotice_keeps s
  | checkpointWriteEnd => exact keptAfter_next (keeps_endCopy s)
  | supokFall => exact execSupokFall_keeps s
  | supokRise => exact execSupokRise_keeps s
  | saveStart => exact execSaveStart_keeps s
  | saveComplete => exact execSaveComplete_keeps s
  | powerUp supokHigh => exact execPowerUp_keeps supokHigh s
  | saveDefeated cut =>
    exact keptAfter_next (Keeps.ite (fun _ => (keeps_applyCut cut s).trans (keeps_losePower _)) fun _ => .refl s)
  | vddLoss => exact keptAfter_next (Keeps.ite (fun _ => keeps_losePower s) fun _ => .refl s)
  | backupDomainLoss => exact execBackupDomainLoss_keeps s
  | backupClockTick => exact keptAfter_next (Keeps.ite (fun _ => .refl s) fun _ => .of_core rfl)
  | assemblyRestore => exact keptAfter_next (keeps_takeNotice _ (keeps_restoreAssembly s))
  | metrologyRestore => exact keptAfter_next (keeps_takeNotice _ (keeps_restoreMetrology s))
  | nettingRestore => exact keptAfter_next (keeps_takeNotice _ (keeps_restoreNetting s))
  | timeBaseRestore => exact keptAfter_next (keeps_takeNotice _ (.of_core rfl))
  | intervalRestore =>
    exact keptAfter_next (Keeps.ite (fun _ => .refl s) fun _ => keeps_takeNotice _ (keeps_restoreInterval s))
  | tariffRestore => exact keptAfter_next (keeps_takeNotice _ (keeps_restoreTariff s))
  | logRestore => exact keptAfter_next (keeps_takeNotice _ (keeps_restoreLog s))
  | envelopeRestore => exact keptAfter_next (keeps_takeNotice _ (keeps_restoreEnvelope s))
  | pulseRestore => exact keptAfter_next (keeps_takeNotice _ (keeps_restorePulse s))
  | engineRestore => exact keptAfter_next (keeps_takeNotice _ (keeps_restoreEngine s))
  | restoreComplete => exact execRestoreComplete_keeps s
  | calenChange closed => exact keptAfter_next (keeps_changeCalen closed s)
  | requestFrame p body check => exact execRequestFrame_keeps p body check s
  | frameStart | frameGap | frameLengthReject =>
    exact keptAfter_next (Keeps.ite (fun _ => keeps_setFrontEnd _ _ s) fun _ => .refl s)
  | answerSent => exact execAnswerSent_keeps s
  | fullAnswerSent p => exact execFullAnswerSent_keeps p s
  | _ => exact nomatch hc

/-- Every command answers a next state that keeps the laws. -/
theorem exec_keeps (c : Instr) (s : State) : KeptAfter s (exec c s) := by
  cases hf : requestSender c with
  | some f => exact exec_request_keeps hf s
  | none => exact exec_event_keeps hf s

/-- Every step keeps every law: a step's state with the rest of its queue reads to the laws as the state itself. -/
theorem step_keeps {s t : State} (e : step s = .next t) :
    Keeps nothingOwed { s with pending := s.pending.tail } t := by
  have after : KeptAfter { s with pending := s.pending.tail } (step s) := by
    unfold step
    split
    · next idle =>
      have same : { s with pending := s.pending.tail } = s := by rw [idle, List.tail_nil, ← idle]
      rw [same]
      exact keptAfter_next (.refl s)
    · next c rest waiting =>
      rw [waiting]
      exact exec_keeps c _
  obtain ⟨u, same, kept⟩ := after
  rw [e] at same
  cases same
  exact kept

/-- Settles O57. -/
theorem logKept : Obligations.LogKept := fun _ _ h e => (step_keeps e).log h

/-- Settles O58. -/
theorem engineKept : Obligations.EngineKept := fun _ _ h e => (step_keeps e).engine h

/-- Settles O59. -/
theorem boundsKept : Obligations.BoundsKept :=
  fun _ _ counts settings e => ⟨(step_keeps e).counts counts, (step_keeps e).settings settings⟩

/-- Settles O60. -/
theorem linesKept : Obligations.LinesKept :=
  fun _ _ lines curtail pulses claim e =>
    ⟨(step_keeps e).lines lines, (step_keeps e).curtail curtail, (step_keeps e).pulses pulses,
      (step_keeps e).claim claim⟩

end Sys2Proof.Machine
end

section
/-! PROOF. Requests at a ready part (R156 to R165): how an arrival becomes the owner's rule, and the settings that are written
by WRITE or by an EXCHANGE that expects the present value. -/

namespace Sys2Proof.Machine

/-! ## Arrivals that are answered -/

/-- An outcome of the state that serves the sender is the answer that `served` describes. -/
theorem next_served {f : Sender} {out : Outcome} {reply : Reply} {t : State} (h : out = (begun f.port t, reply)) :
    (.next (answered f out) : StepResult) = .next (served f reply t) := by
  rw [h, answered_begun]

/-- A port's view of an object does not depend on which port the engine serves. -/
theorem readObject_begun (s : State) (p q : Port) (o : Obj) : readObject (begun p s) q o = readObject s q o := by
  cases o with
  | gain φ x => cases x <;> rfl
  | offset φ x => cases x <;> rfl
  | _ => rfl

/-- A WRITE, or an EXCHANGE that expects the present value, is answered by the owner's rule for the value (R162). -/
theorem put_served {s t : State} (h : Ready s) {f : Sender} {o : Obj} {w : WriteForm} {old v : Word} {reply : Reply}
    (hw : MayWrite s f.port o) (hp : Puts w old v) (ha : o.access = .readWrite) (hc : o ≠ .claim)
    (hr : readObject s f.port o = .value old) (e : writeObject f.port o v (begun f.port s) = (begun f.port t, reply)) :
    arrival f (requestOfForm f o w) s = .next (served f reply t) :=
  (arrival_put h ha hw hc ((readObject_begun s f.port f.port o).trans hr) hp).trans (next_served e)

/-- A COMMAND is answered by the owner's rule (R165). -/
theorem command_served {s t : State} (h : Ready s) {f : Sender} {o : Obj} {ops : List Word} {reply : Reply}
    (hw : MayWrite s f.port o) (ha : o.access = .command) (hn : ops.length = o.operandCount)
    (hc : o.isContextCommand = false)
    (e : commandObject f.port o (ops.getD 0 0) (ops.getD 1 0) (begun f.port s) = (begun f.port t, reply)) :
    arrival f (requestTo f .command o ops) s = .next (served f reply t) :=
  (arrival_command h ops ha hn hc hw).trans (next_served e)

/-- The right to write is one of the object's group (R160). -/
theorem MayWrite.group {s : State} {p : Port} {o o' : Obj} (h : MayWrite s p o) (e : o'.group = o.group) :
    MayWrite s p o' := by
  rwa [MayWrite, e]

/-- A present value that puts one stored setting, or is refused with RANGE. -/
theorem store_some {α : Type} {x : Option α} {a : α} (h : x = some a) (put : α → State → State) (s : State) :
    store x put s = done (put a s) := by
  rw [h]
  rfl

theorem store_none {α : Type} {x : Option α} (h : x = none) (put : α → State → State) (s : State) :
    store x put s = refuse .range s := by
  rw [h]
  rfl

/-! ## Operands (R117, R126) -/

/-- The clamp of a setting, spelled by its three cases (R126, R136, R139). -/
theorem clampNat_eq (low high : Nat) (w : Word) : clampNat low high w = clampedTo low high w := by
  unfold clampNat clampInt clampedTo
  split
  · exact Int.toNat_natCast low
  · split
    · exact Int.toNat_natCast high
    · rfl

/-- The limit of an operand, spelled by its three cases (R117). -/
theorem limitOperand_eq (w : Word) : limitOperand w = limitRead w := by
  unfold limitOperand limitRead allOnes
  split
  · rfl
  · split
    · next h => rw [Nat.min_eq_right (by omega)]
    · next h => rw [Nat.min_eq_left (by omega)]

/-- The offset of an operand is its signed value brought between -2,047 and 2,047 (R22). -/
theorem offsetOperand_eq (w : Word) : offsetOperand w = max (-2047) (min 2047 w.toInt) := by
  unfold offsetOperand clampInt
  split
  · omega
  · split <;> omega

/-! ## Settings with a range (R117, R119, R120, R126, R136, R139) -/

/-- Settles O1. -/
theorem clampedSettingWrites : Obligations.ClampedSettingWrites := by
  intro f w v s h
  simp only [← clampNat_eq]
  exact ⟨fun hw hp => put_served h hw hp rfl (by decide) rfl rfl,
    fun hw hp => put_served h hw hp rfl (by decide) rfl rfl,
    fun hw hp => put_served h hw hp rfl (by decide) rfl rfl,
    fun hw hp => put_served h hw hp rfl (by decide) rfl rfl,
    fun hw hp => put_served h hw hp rfl (by decide) rfl rfl,
    fun hw hp => put_served h hw hp rfl (by decide) rfl rfl⟩

/-- Settles O2. -/
theorem limitAndTermCommands : Obligations.LimitAndTermCommands := by
  intro f w v validity s h
  simp only [← clampNat_eq, ← limitOperand_eq]
  refine ⟨fun hw hp => put_served h hw hp rfl (by decide) rfl rfl,
    fun hw hp => put_served h hw hp rfl (by decide) rfl rfl, fun hw => ?_⟩
  by_cases hu : f.port = .utility
  · rw [if_pos hu]
    exact command_served h hw rfl rfl rfl (if_pos hu)
  · rw [if_neg hu]
    exact command_served h hw rfl rfl rfl (if_neg hu)

/-! ## Calibration (R21, R22, R31) -/

theorem group_gain (φ : Phase) (x : Quantity) : (Obj.gain φ x).group = Obj.creepThreshold.group := by
  cases φ <;> cases x <;> rfl

theorem group_offset (φ : Phase) (x : Quantity) : (Obj.offset φ x).group = Obj.creepThreshold.group := by
  cases φ <;> cases x <;> rfl

/-- Settles O3. -/
theorem calibrationWrites : Obligations.CalibrationWrites := by
  intro f φ x w v s h hw
  refine ⟨fun old hr hp => ?gain, fun old hr hp => ?offset, fun hp => ?creep⟩
  case gain =>
    have hw' := hw.group (group_gain φ x)
    split
    · next legal =>
      refine put_served h hw' hp rfl nofun hr ?_
      refine (store_some (if_pos legal) _ _).trans ?_
      cases x <;> rfl
    · next illegal =>
      exact put_served h hw' hp rfl nofun hr (store_none (if_neg illegal) _ _)
  case offset =>
    rw [← offsetOperand_eq]
    refine put_served h (hw.group (group_offset φ x)) hp rfl nofun hr ?_
    cases x <;> rfl
  case creep =>
    rw [← clampNat_eq]
    exact put_served h hw hp rfl nofun rfl rfl

/-! ## Settings with named values (R94, R127, R134, R141) -/

/-- A two-valued setting takes 0 and 1 alone. -/
theorem switch_served {s : State} (h : Ready s) {f : Sender} {o : Obj} {w : WriteForm} {old v : Word}
    (hw : MayWrite s f.port o) (hp : Puts w old v) (ha : o.access = .readWrite) (hc : o ≠ .claim)
    (hr : readObject s f.port o = .value old) (put : Bool → State → State)
    (e : writeObject f.port o v (begun f.port s) = store (switchNamed v) put (begun f.port s))
    (hput : ∀ b, put b (begun f.port s) = begun f.port (put b s)) :
    arrival f (requestOfForm f o w) s = .next (
      if v = 0#32 then served f doneReply (put false s) else if v = 1#32 then served f doneReply (put true s)
      else served f (plainReply .range) s) := by
  have set {b : Bool} (hv : switchNamed v = some b) :
      arrival f (requestOfForm f o w) s = .next (served f doneReply (put b s)) :=
    put_served h hw hp ha hc hr (e.trans ((store_some hv _ _).trans (congrArg done (hput b))))
  by_cases h0 : v = 0#32
  · rw [if_pos h0]
    exact set (if_pos h0)
  by_cases h1 : v = 1#32
  · rw [if_neg h0, if_pos h1]
    exact set ((if_neg h0).trans (if_pos h1))
  · rw [if_neg h0, if_neg h1]
    exact put_served h hw hp ha hc hr (e.trans (store_none ((if_neg h0).trans (if_neg h1)) _ _))

/-- Settles O4. -/
theorem enumeratedSettingWrites : Obligations.EnumeratedSettingWrites := by
  intro f w v s h
  refine ⟨fun hw hp => ?level, fun hw hp => ?option, fun hw hp => ?source, fun hw hp => ?divisor⟩
  case level => exact switch_served h hw hp rfl nofun rfl _ rfl fun _ => rfl
  case option => exact switch_served h hw hp rfl nofun rfl _ rfl fun _ => rfl
  case source =>
    have put {t reply} := put_served (t := t) (reply := reply) h hw hp rfl nofun rfl
    by_cases h0 : v = 0#32
    · rw [if_pos h0]
      exact put (store_some (if_pos h0) _ _)
    by_cases h1 : v = 1#32
    · rw [if_neg h0, if_pos h1]
      exact put (store_some ((if_neg h0).trans (if_pos h1)) _ _)
    by_cases h2 : v = 2#32
    · rw [if_neg h0, if_neg h1, if_pos h2]
      exact put (store_some ((if_neg h0).trans ((if_neg h1).trans (if_pos h2))) _ _)
    · rw [if_neg h0, if_neg h1, if_neg h2]
      exact put (store_none ((if_neg h0).trans ((if_neg h1).trans (if_neg h2))) _ _)
  case divisor =>
    have put {t reply} := put_served (t := t) (reply := reply) h hw hp rfl nofun rfl
    have named : divisorNamed v =
        if v.toNat = 1 ∨ v.toNat = 10 ∨ v.toNat = 100 ∨ v.toNat = 1000 then some v.toNat else none := by
      simp [divisorNamed]
    by_cases ht : s.pulse.test = true
    · rw [if_pos ht]
      exact put (if_pos ht)
    rw [if_neg ht]
    split
    · next hd => exact put ((if_neg ht).trans (store_some (named.trans (if_pos hd)) _ _))
    · next hd => exact put ((if_neg ht).trans (store_none (named.trans (if_neg hd)) _ _))

/-! ## Settings that wait (R44, R66, R92) -/

theorem basisNamed_code (b : Basis) : basisNamed (natWord (basisCode b)) = some b := by cases b <;> rfl

/-- Settles O5. -/
theorem pendingSettingWrites : Obligations.PendingSettingWrites := by
  intro f w v s h
  refine ⟨fun hw hp => ?basis, fun hw hp => ?length, fun hw hp => ?day⟩
  case basis =>
    have put {t reply} := put_served (t := t) (reply := reply) h hw hp rfl nofun rfl
    by_cases hu : f.port = .utility
    · rw [if_neg (not_not.mpr hu)]
      -- A named basis is stored as the pending one, unless it is the one in force.
      have named {b : Basis} (hb : basisNamed v = some b) : writeObject f.port .basis v (begun f.port s) =
          (begun f.port { s with netting := { s.netting with
            pendingBasis := if b = s.netting.basis then none else some b } }, doneReply) :=
        (if_pos hu).trans (store_some hb _ _)
      by_cases hf : v = natWord (basisCode s.netting.basis)
      · rw [if_pos hf]
        refine put ((named (hf ▸ basisNamed_code s.netting.basis)).trans ?_)
        rw [if_pos rfl]
      rw [if_neg hf]
      have other {b : Basis} (hv : v = natWord (basisCode b)) : b ≠ s.netting.basis := fun e => hf (e ▸ hv)
      by_cases h1 : v = 1#32
      · rw [if_pos h1]
        refine put ((named (b := .phase) (if_pos h1)).trans ?_)
        rw [if_neg (other (b := .phase) h1)]
      by_cases h2 : v = 2#32
      · rw [if_neg h1, if_pos h2]
        refine put ((named (b := .vector) ((if_neg h1).trans (if_pos h2))).trans ?_)
        rw [if_neg (other (b := .vector) h2)]
      · rw [if_neg h1, if_neg h2]
        exact put ((if_pos hu).trans (store_none ((if_neg h1).trans (if_neg h2)) _ _))
    · rw [if_pos hu]
      exact put (if_neg hu)
  case length =>
    have put {t reply} := put_served (t := t) (reply := reply) h hw hp rfl nofun rfl
    have named : intervalLengthNamed v =
        if v.toNat = 5 ∨ v.toNat = 10 ∨ v.toNat = 15 ∨ v.toNat = 30 ∨ v.toNat = 60 then some v.toNat else none := by
      simp [intervalLengthNamed]
    have write : writeObject f.port .intervalLength v (begun f.port s) = store (intervalLengthNamed v)
        (fun m t => { t with interval := setPendingLength m t.interval }) (begun f.port s) := rfl
    split
    · next hl => exact put (write.trans (store_some (named.trans (if_pos hl)) _ _))
    · next hl => exact put (write.trans (store_none (named.trans (if_neg hl)) _ _))
  case day =>
    have put {t reply} := put_served (t := t) (reply := reply) h hw hp rfl nofun rfl
    by_cases hd : 28 < v.toNat
    · rw [if_pos hd]
      exact put (if_neg (by omega))
    rw [if_neg hd]
    have stored : writeObject f.port .freezeDay v (begun f.port s) =
        (begun f.port (onTariff (setFreezeDay v.toNat) s), doneReply) := if_pos (by omega)
    by_cases hs : v.toNat = s.tariff.freezeDay
    · rw [if_pos hs]
      refine put (stored.trans ?_)
      rw [onTariff, setFreezeDay, if_pos hs]
    · rw [if_neg hs]
      refine put (stored.trans ?_)
      rw [onTariff, setFreezeDay, if_neg hs]

end Sys2Proof.Machine
end

section
/-! PROOF. Latched events and link changes, said once, and the requests about links and the clock (R4, R8, R10 to R12, R61
to R63). -/

namespace Sys2Proof.Machine

/-! ## Latched events (R169) -/

theorem or_and_eventSet (x : EventSet) (k : EventKind) : (x ||| eventSet k) &&& eventSet k = eventSet k := by
  ext i hi
  simp only [BitVec.getElem_and, BitVec.getElem_or]
  cases (eventSet k)[i] <;> simp

/-- An event raised while events are latched is latched at every port. -/
theorem latched_raise (k : EventKind) {s : State} (h : latching s.store.state = true) : Latched k (raise k s) := by
  intro p
  rw [raise_latches k s h]
  exact or_and_eventSet _ k

/-- An event raised for one port while events are latched is latched at that port. -/
theorem raiseFor_latched (k : EventKind) (p : Port) {s : State} (h : latching s.store.state = true) :
    (raiseFor k p s).engine.latches.get p &&& eventSet k = eventSet k := by
  rw [raiseFor_latches k p s h]
  exact or_and_eventSet _ k

theorem raiseFor_latches_other {p q : Port} (h : q ≠ p) (k : EventKind) (s : State) :
    (raiseFor k p s).engine.latches.get q = s.engine.latches.get q := by
  unfold raiseFor
  split
  · exact PerPort.get_set_ne _ _ h
  · rfl

/-- A latched event stays latched when another is raised. -/
theorem Latched.raise {k : EventKind} {s : State} (h : Latched k s) (j : EventKind) : Latched k (raise j s) :=
  fun p => raise_latches_mono j s p _ (h p)

theorem Latched.raiseIf {k : EventKind} {s : State} (h : Latched k s) (c : Bool) (j : EventKind) :
    Latched k (raiseIf c j s) := by
  unfold Machine.raiseIf
  split
  · exact h.raise j
  · exact h

/-! ## Changes of a link (R4) -/

theorem changeLink_same {φ : Phase} {target : LinkState} {s : State} (h : (s.assembly.links.get φ).state = target) :
    changeLink φ target s = s := if_pos h

/-- The links after a change of one: its own rule of entry, and the others as they were. -/
theorem changeLink_links {φ : Phase} {target : LinkState} {s : State} (h : (s.assembly.links.get φ).state ≠ target) :
    (changeLink φ target s).assembly.links = s.assembly.links.set φ (enterState (s.assembly.links.get φ) target) := by
  simp [changeLink, h]

/-- A change of a link's state latches LINK_CHANGE. -/
theorem changeLink_latched {φ : Phase} {target : LinkState} {s : State} (hs : latching s.store.state = true)
    (h : (s.assembly.links.get φ).state ≠ target) : Latched .linkChange (changeLink φ target s) := by
  rw [changeLink, if_neg h]
  exact latched_raise _ hs

theorem Latched.changeLink {k : EventKind} {s : State} (h : Latched k s) (φ : Phase) (target : LinkState) :
    Latched k (changeLink φ target s) := by
  unfold Machine.changeLink
  simp only
  split
  · exact h
  · exact fun p => raise_latches_mono .linkChange _ p _ (h p)

@[simp] theorem enterState_state (l : Link) (target : LinkState) : (enterState l target).state = target := by
  cases target <;> rfl

theorem changeLink_state (φ : Phase) (target : LinkState) (s : State) :
    ((changeLink φ target s).assembly.links.get φ).state = target := by
  by_cases h : (s.assembly.links.get φ).state = target
  · rw [changeLink_same h, h]
  · rw [changeLink_links h, PerPhase.get_set_same, enterState_state]

theorem changeLink_other {φ ψ : Phase} (hn : ψ ≠ φ) (target : LinkState) (s : State) :
    (changeLink φ target s).assembly.links.get ψ = s.assembly.links.get ψ := by
  by_cases h : (s.assembly.links.get φ).state = target
  · rw [changeLink_same h]
  · rw [changeLink_links h, PerPhase.get_set_ne _ _ hn]

@[simp] theorem changeLink_metrology (φ : Phase) (target : LinkState) (s : State) :
    (changeLink φ target s).metrology = s.metrology := by
  obtain ⟨l, o, a, n, e⟩ := changeLink_shape φ target s
  rw [e]

@[simp] theorem changeLink_quality (φ : Phase) (target : LinkState) (s : State) :
    (changeLink φ target s).assembly.quality = s.assembly.quality := by
  obtain ⟨l, o, a, n, e⟩ := changeLink_shape φ target s
  rw [e]

@[simp] theorem changeLink_substitutionRun (φ : Phase) (target : LinkState) (s : State) :
    (changeLink φ target s).assembly.substitutionRun = s.assembly.substitutionRun := by
  obtain ⟨l, o, a, n, e⟩ := changeLink_shape φ target s
  rw [e]

@[simp] theorem changeLink_phases (φ : Phase) (target : LinkState) (s : State) :
    (changeLink φ target s).assembly.phases = s.assembly.phases := by
  obtain ⟨l, o, a, n, e⟩ := changeLink_shape φ target s
  rw [e]

@[simp] theorem changeLink_store (φ : Phase) (target : LinkState) (s : State) :
    (changeLink φ target s).store = s.store := by
  obtain ⟨l, o, a, n, e⟩ := changeLink_shape φ target s
  rw [e]

/-! ## The configured class (R8) -/

theorem setConfiguredClass_class (φ : Phase) (c : Nat) (s : State) :
    ((setConfiguredClass φ c s).assembly.links.get φ).configuredClass = c := by
  unfold setConfiguredClass
  simp only
  split
  · next same => exact same.symm
  · split
    · split
      · simp [setLink]
      · next h _ =>
        rw [changeLink_links (by simp [setLink, h])]
        simp [setLink]
    all_goals simp [setLink]

theorem setConfiguredClass_other {φ ψ : Phase} (hn : ψ ≠ φ) (c : Nat) (s : State) :
    (setConfiguredClass φ c s).assembly.links.get ψ = s.assembly.links.get ψ := by
  unfold setConfiguredClass
  simp only
  split
  · rfl
  · split
    · split
      · exact PerPhase.get_set_ne _ _ hn
      · exact (changeLink_other hn _ _).trans (PerPhase.get_set_ne _ _ hn)
    all_goals exact PerPhase.get_set_ne _ _ hn

/-- A LOCKED link whose head reports another class than the new one moves to MISMATCH (R8). -/
theorem setConfiguredClass_locked {φ : Phase} {c : Nat} {s : State} (hr : latching s.store.state = true)
    (hs : (s.assembly.links.get φ).state = .locked) (hc : c ≠ (s.assembly.links.get φ).configuredClass)
    (hp : c ≠ (s.assembly.links.get φ).reportedClass) :
    ((setConfiguredClass φ c s).assembly.links.get φ).state = .mismatch ∧
      ((setConfiguredClass φ c s).assembly.links.get φ).countdown = 0 ∧
      Latched .linkChange (setConfiguredClass φ c s) := by
  have e : setConfiguredClass φ c s =
      changeLink φ .mismatch (setLink φ { s.assembly.links.get φ with configuredClass := c } s) := by
    simp [setConfiguredClass, hs, hc, hp]
  have moves : ((setLink φ { s.assembly.links.get φ with configuredClass := c } s).assembly.links.get φ).state ≠
      .mismatch := by simp [setLink, hs]
  rw [e]
  refine ⟨changeLink_state _ _ _, ?_, changeLink_latched hr moves⟩
  rw [changeLink_links moves, PerPhase.get_set_same]
  rfl

/-- A MISMATCH link identifies its head at the next strobe (R8). -/
theorem setConfiguredClass_mismatch {φ : Phase} {c : Nat} {s : State}
    (hs : (s.assembly.links.get φ).state = .mismatch) (hc : c ≠ (s.assembly.links.get φ).configuredClass) :
    ((setConfiguredClass φ c s).assembly.links.get φ).state = .mismatch ∧
      ((setConfiguredClass φ c s).assembly.links.get φ).countdown = 0 := by
  simp [setConfiguredClass, hs, hc, setLink]

/-! ## Phases in use (R12) -/

/-- A phase out of use, in the assembly and in the live values (R12, R37). -/
def PhaseOut (φ : Phase) (t : State) : Prop :=
  (t.assembly.links.get φ).state = .disabled ∧ t.assembly.quality.get φ = .disabled ∧
    t.assembly.substitutionRun.get φ = 0 ∧ t.metrology.live.quality.get φ = .disabled ∧
    t.metrology.live.power.get φ = 0

/-- A phase as it comes into use, in the assembly and in the live values (R12, R37). -/
def PhaseIn (φ : Phase) (t : State) : Prop :=
  (t.assembly.links.get φ).state = .down ∧ t.assembly.quality.get φ = .lost ∧
    t.assembly.substitutionRun.get φ = 0 ∧ t.metrology.live.quality.get φ = .lost

theorem disablePhase_out (φ : Phase) (s : State) : PhaseOut φ (disablePhase φ s) := by
  simp [PhaseOut, disablePhase, changeLink_state]

theorem PhaseOut.disable {φ ψ : Phase} {s : State} (h : PhaseOut ψ s) (hn : ψ ≠ φ) : PhaseOut ψ (disablePhase φ s) := by
  simpa [PhaseOut, disablePhase, changeLink_other hn, PerPhase.get_set_ne _ _ hn] using h

theorem enablePhase_in (φ : Phase) (s : State) : PhaseIn φ (enablePhase φ s) := by
  simp [PhaseIn, enablePhase, changeLink_state]

theorem PhaseIn.enable {φ ψ : Phase} {s : State} (h : PhaseIn ψ s) (hn : ψ ≠ φ) : PhaseIn ψ (enablePhase φ s) := by
  simpa [PhaseIn, enablePhase, changeLink_other hn, PerPhase.get_set_ne _ _ hn] using h

theorem disablePhase_other {φ ψ : Phase} (hn : ψ ≠ φ) (s : State) :
    (disablePhase φ s).assembly.links.get ψ = s.assembly.links.get ψ := by
  simp [disablePhase, changeLink_other hn]

theorem enablePhase_other {φ ψ : Phase} (hn : ψ ≠ φ) (s : State) :
    (enablePhase φ s).assembly.links.get ψ = s.assembly.links.get ψ := by
  simp [enablePhase, changeLink_other hn]

@[simp] theorem disablePhase_phases (φ : Phase) (s : State) :
    (disablePhase φ s).assembly.phases = s.assembly.phases := by simp [disablePhase]

@[simp] theorem enablePhase_phases (φ : Phase) (s : State) :
    (enablePhase φ s).assembly.phases = s.assembly.phases := by simp [enablePhase]

@[simp] theorem enablePhase_store (φ : Phase) (s : State) : (enablePhase φ s).store = s.store := by
  simp [enablePhase]

theorem enablePhase_latched (φ : Phase) {s : State} (h : latching s.store.state = true) :
    Latched .phaseLost (enablePhase φ s) :=
  latched_raise _ (by rwa [changeLink_store])

/-- Phases 2 and 3 go out of use (R12). -/
theorem setPhasesInUse_one {s : State} (h : s.assembly.phases = .three) :
    (setPhasesInUse .one s).assembly.phases = .one ∧
      (setPhasesInUse .one s).assembly.links.get .p1 = s.assembly.links.get .p1 ∧
      ∀ φ, φ ≠ .p1 → PhaseOut φ (setPhasesInUse .one s) := by
  have e : setPhasesInUse .one s = disablePhase .p3 (disablePhase .p2
      { s with assembly := { s.assembly with phases := .one } }) := if_neg (by simp [h])
  rw [e]
  refine ⟨by simp, ?_, fun φ hn => ?_⟩
  · rw [disablePhase_other (by decide), disablePhase_other (by decide)]
  · cases φ with
    | p1 => exact absurd rfl hn
    | p2 => exact (disablePhase_out _ _).disable (by decide)
    | p3 => exact disablePhase_out _ _

/-- Phases 2 and 3 come into use (R12). -/
theorem setPhasesInUse_three {s : State} (hs : latching s.store.state = true) (h : s.assembly.phases = .one) :
    (setPhasesInUse .three s).assembly.phases = .three ∧
      (setPhasesInUse .three s).assembly.links.get .p1 = s.assembly.links.get .p1 ∧
      Latched .phaseLost (setPhasesInUse .three s) ∧ ∀ φ, φ ≠ .p1 → PhaseIn φ (setPhasesInUse .three s) := by
  have e : setPhasesInUse .three s = enablePhase .p3 (enablePhase .p2
      { s with assembly := { s.assembly with phases := .three } }) := if_neg (by simp [h])
  rw [e]
  refine ⟨by simp, ?_, enablePhase_latched _ (by rwa [enablePhase_store]), fun φ hn => ?_⟩
  · rw [enablePhase_other (by decide), enablePhase_other (by decide)]
  · cases φ with
    | p1 => exact absurd rfl hn
    | p2 => exact (enablePhase_in _ _).enable (by decide)
    | p3 => exact enablePhase_in _ _

/-- A stored value, answered DONE, leaves the state that the owner's rule makes of the part as it serves the sender. -/
theorem put_stored {s : State} (h : Ready s) {f : Sender} {o : Obj} {w : WriteForm} {old v : Word} {α : Type}
    {x : Option α} {a : α} {put : α → State → State} (hw : MayWrite s f.port o) (hp : Puts w old v)
    (ha : o.access = .readWrite) (hc : o ≠ .claim) (hr : readObject s f.port o = .value old) (hx : x = some a)
    (e : writeObject f.port o v (begun f.port s) = store x put (begun f.port s)) :
    arrival f (requestOfForm f o w) s = .next (answered f (done (put a (begun f.port s)))) := by
  rw [arrival_put h ha hw hc ((readObject_begun s f.port f.port o).trans hr) hp, e, store_some hx]

theorem group_configuredClass (φ : Phase) : (Obj.configuredClass φ).group = Obj.phasesInUse.group := by
  cases φ <;> rfl

/-- Settles O6. -/
theorem linkSettings : Obligations.LinkSettings := by
  intro f w v s h hw
  refine ⟨fun φ hp hv => ?classRange, fun φ hp hlow hhigh => ?classStored, fun hp h1 h3 => ?phasesRange,
    fun hp hv => ?phasesSame, fun hp h3 hv => ?toOne, fun hp h1 hv => ?toThree⟩
  case classRange =>
    exact put_served h (hw.group (group_configuredClass φ)) hp rfl nofun rfl
      (store_none (if_neg (by omega)) _ _)
  case classStored =>
    refine ⟨_, put_stored h (hw.group (group_configuredClass φ)) hp rfl nofun rfl (if_pos ⟨hlow, hhigh⟩) rfl,
      setConfiguredClass_class _ _ _, fun ψ hn => setConfiguredClass_other hn _ _,
      fun hs hc hr => setConfiguredClass_locked (latching_running h.1) hs hc hr,
      fun hs hc => setConfiguredClass_mismatch hs hc⟩
  case phasesRange =>
    exact put_served h hw hp rfl nofun rfl (store_none ((if_neg h1).trans (if_neg h3)) _ _)
  case phasesSame =>
    refine put_served h hw hp rfl nofun rfl ((store_some (a := s.assembly.phases) ?_ _ _).trans ?_)
    · rw [hv]
      cases s.assembly.phases <;> rfl
    · exact congrArg done (if_pos rfl)
  case toOne =>
    have hr : readObject s f.port .phasesInUse = .value 3#32 := by
      change Found.value (natWord (phasesCode s.assembly.phases)) = _
      rw [h3]
      rfl
    exact ⟨_, put_stored h hw hp rfl nofun hr (if_pos hv) rfl, setPhasesInUse_one (s := begun f.port s) h3⟩
  case toThree =>
    have hr : readObject s f.port .phasesInUse = .value 1#32 := by
      change Found.value (natWord (phasesCode s.assembly.phases)) = _
      rw [h1]
      rfl
    exact ⟨_, put_stored h hw hp rfl nofun hr ((if_neg (by rw [hv]; decide)).trans (if_pos hv)) rfl,
      setPhasesInUse_three (s := begun f.port s) (latching_running h.1) h1⟩

/-! ## Link commands (R10, R11) -/

theorem phaseNamed_code (φ : Phase) : phaseNamed (natWord (phaseIndex φ + 1)) = some φ := by cases φ <;> rfl

/-- A command answered DONE leaves the state that the owner's rule makes of the part as it serves the sender. -/
theorem command_answered {s : State} (h : Ready s) {f : Sender} {o : Obj} {ops : List Word} {out : Outcome}
    (hw : MayWrite s f.port o) (ha : o.access = .command) (hn : ops.length = o.operandCount)
    (hc : o.isContextCommand = false)
    (e : commandObject f.port o (ops.getD 0 0) (ops.getD 1 0) (begun f.port s) = out) :
    arrival f (requestTo f .command o ops) s = .next (answered f out) :=
  (arrival_command h ops ha hn hc hw).trans (by rw [e])

/-- What LINK RESTART keeps of the link (R10). -/
theorem changeLink_down_keeps (φ : Phase) (s : State) :
    let l := (changeLink φ .down s).assembly.links.get φ
    l.serial = (s.assembly.links.get φ).serial ∧ l.reportedClass = (s.assembly.links.get φ).reportedClass ∧
      l.invalidFrames = (s.assembly.links.get φ).invalidFrames ∧
      l.lateFrames = (s.assembly.links.get φ).lateFrames := by
  by_cases h : (s.assembly.links.get φ).state = .down
  · simp [changeLink_same h]
  · rw [changeLink_links h, PerPhase.get_set_same]
    simp only [enterState]
    split <;> simp

/-- Settles O7. -/
theorem linkCommands : Obligations.LinkCommands := by
  intro f w s h hw
  refine ⟨fun φ hφ hu => ?restart, fun hv => ?refused, ?clear⟩
  case restart =>
    have e : commandLinkRestart w (begun f.port s) = done (restartLink φ (begun f.port s)) := by
      simp only [commandLinkRestart, hφ, phaseNamed_code]
      exact if_pos hu
    obtain ⟨serial, reported, invalid, late⟩ := changeLink_down_keeps φ (begun f.port s)
    refine ⟨_, command_answered (ops := [w]) h hw rfl rfl rfl e, ?_⟩
    have own : (restartLink φ (begun f.port s)).assembly.links.get φ =
        { (changeLink φ .down (begun f.port s)).assembly.links.get φ with control := .restart, countdown := 0 } :=
      PerPhase.get_set_same _ _ _
    have other (ψ) (hn : ψ ≠ φ) : (restartLink φ (begun f.port s)).assembly.links.get ψ = s.assembly.links.get ψ :=
      (PerPhase.get_set_ne _ _ hn).trans (changeLink_other hn _ _)
    change ((restartLink φ (begun f.port s)).assembly.links.get φ).state = _ ∧
      ((restartLink φ (begun f.port s)).assembly.links.get φ).control = _ ∧
      ((restartLink φ (begun f.port s)).assembly.links.get φ).countdown = _ ∧
      ((restartLink φ (begun f.port s)).assembly.links.get φ).serial = _ ∧
      ((restartLink φ (begun f.port s)).assembly.links.get φ).reportedClass = _ ∧
      ((restartLink φ (begun f.port s)).assembly.links.get φ).invalidFrames = _ ∧
      ((restartLink φ (begun f.port s)).assembly.links.get φ).lateFrames = _ ∧ _
    rw [own]
    refine ⟨changeLink_state _ _ _, rfl, rfl, serial, reported, invalid, late, other, fun hd => ?_, fun hd => ?_⟩
    · exact changeLink_latched (s := begun f.port s) (latching_running h.1) hd
    · have same : changeLink φ .down (begun f.port s) = begun f.port s := changeLink_same hd
      change (changeLink φ .down (begun f.port s)).engine.latches = _
      rw [same]
      rfl
  case refused =>
    refine command_served (ops := [w]) h hw rfl rfl rfl ?_
    change commandLinkRestart w (begun f.port s) = refuse .range (begun f.port s)
    unfold commandLinkRestart phaseNamed
    by_cases h1 : w = 1#32
    · rcases hv with hv | hv | ⟨-, hv⟩
      · simp [h1] at hv
      · simp [h1] at hv
      · exact absurd h1 hv
    rw [if_neg h1]
    split
    · rfl
    · next φ named =>
      have hφ : φ ≠ .p1 := by
        rintro rfl
        split at named
        · cases named
        · split at named <;> cases named
      have valid : w = 2#32 ∨ w = 3#32 := by
        by_contra hw
        rw [if_neg (by tauto), if_neg (by tauto)] at named
        cases named
      have one : s.assembly.phases = .one := by
        rcases hv with hv | hv | ⟨hv, -⟩
        · rcases valid with rfl | rfl <;> simp at hv
        · rcases valid with rfl | rfl <;> simp at hv
        · exact hv
      have out : phaseInUse (begun f.port s).assembly.phases φ = false := by
        simp [phaseInUse, begun, one, hφ]
      rw [out]
      rfl
  case clear => exact command_served (ops := []) h hw rfl rfl rfl rfl

/-! ## The clock (R61 to R63) -/

theorem instantOfSeconds_some {n : Int} {t : Instant} (hd : t.day ≤ 65535) (hs : t.second ≤ 86399)
    (e : (t.day * 86400 + t.second : Int) = n) : instantOfSeconds n = some t := by
  subst e
  rw [instantOfSeconds, if_pos (by omega)]
  congr
  · omega
  · omega

theorem instantOfSeconds_none {n : Int} (h : n < 0 ∨ 65536 * 86400 ≤ n) : instantOfSeconds n = none :=
  if_neg (by omega)

/-- A TIME ADJUST that steps, by the new time it names (R63). -/
theorem adjustTime_step {b : TimeBase} {delta : Int} {base : Instant}
    (h : b.step ≠ none ∨ delta < -30 ∨ 30 < delta)
    (hb : b.step = some base ∨ (b.step = none ∧ base = ⟨b.start.day, b.start.second + 1⟩)) :
    adjustTime b delta = (instantOfSeconds (base.day * 86400 + base.second + delta)).map fun t =>
      { b with step := some t } := by
  have slews : ¬ ((b.step.isNone && decide (-30 ≤ delta ∧ delta ≤ 30)) = true) := by
    rcases h with h | h
    · obtain ⟨x, hx⟩ := Option.ne_none_iff_exists'.mp h
      simp [hx]
    · simp only [Bool.and_eq_true, decide_eq_true_eq]
      omega
  have time : b.step.getD ⟨(runningEnd b).day, (runningEnd b).second⟩ = base := by
    rcases hb with hb | ⟨hb, rfl⟩ <;> rw [hb] <;> rfl
  simp only [adjustTime, if_neg slews, time, instantSeconds]
  push_cast
  rfl

/-- Settles O8. -/
theorem clockCommands : Obligations.ClockCommands := by
  intro f a b s h hw
  have adjust {t reply} := command_served (t := t) (reply := reply) (o := .timeAdjust) (ops := [a]) h hw rfl rfl rfl
  refine ⟨?set, fun hu => ?unset, fun hset hn hl hh => ?slew, fun hset hc base hb => ⟨fun new hd hs e => ?step, fun hr => ?range⟩⟩
  case set =>
    split
    · next legal => exact command_served (ops := [a, b]) h hw rfl rfl rfl (if_pos legal)
    · next illegal => exact command_served (ops := [a, b]) h hw rfl rfl rfl (if_neg illegal)
  case unset => exact adjust (if_neg (by simp [begun, hu]))
  case slew =>
    refine adjust ((if_pos hset).trans (store_some (if_pos ?_) _ _))
    simp [begun, hn, hl, hh]
  case step =>
    refine adjust ((if_pos hset).trans (store_some ((adjustTime_step hc hb).trans ?_) _ _))
    rw [instantOfSeconds_some hd hs e]
    rfl
  case range =>
    refine adjust ((if_pos hset).trans (store_none ((adjustTime_step hc hb).trans ?_) _ _))
    rw [instantOfSeconds_none hr]
    rfl

end Sys2Proof.Machine
end

section
/-! PROOF. The staging claim, the pending schedule and its commands (R82, R83, R85 to R88). -/

namespace Sys2Proof.Machine

/-! ## The staging claim (R82, R83) -/

theorem claimNamed_own (p : Port) : claimNamed p (natWord (portCode p)) = some (some p) := by cases p <;> rfl

theorem writeClaim_named {p : Port} {w : Word} {v : Option Port} (h : claimNamed p w = some v) (s : State) :
    writeClaim p w s =
      if s.tariff.claim = v then done s
      else if s.tariff.claim = none then done (onTariff (takeClaim p) s)
      else if s.tariff.claim = some p then done (onTariff (fun u => { u with claim := none }) s)
      else refuse .claimed s := by
  unfold writeClaim
  rw [h]

theorem exchangeClaim_named {p : Port} {expected w : Word} {v : Option Port} (h : claimNamed p w = some v) (s : State) :
    exchangeClaim p expected w s =
      if expected ≠ natWord (claimCode s.tariff.claim) then
        (s, ⟨.mismatch, .values [natWord (claimCode s.tariff.claim)]⟩)
      else if v = some p then done (takeClaimFrom p s.tariff.claim s)
      else if s.tariff.claim = none ∨ s.tariff.claim = some p then
        done (onTariff (fun u => { u with claim := none }) s)
      else refuse .claimed s := by
  unfold exchangeClaim
  rw [h]

/-- A value that names neither NONE nor the port itself is no claim value of that port (R82). -/
theorem claimNamed_other {p : Port} {w : Word} (h0 : w ≠ 0#32) (hp : w ≠ natWord (portCode p)) : claimNamed p w = none := by
  rw [claimNamed, if_neg h0, if_neg hp]

theorem claimNamed_legal {p : Port} {w : Word} (h : w = 0#32 ∨ w = natWord (portCode p)) :
    ∃ v, claimNamed p w = some v := by
  rcases h with rfl | rfl
  · exact ⟨none, rfl⟩
  · exact ⟨some p, claimNamed_own p⟩

/-- Settles O9. -/
theorem claimTable : Obligations.ClaimTable := by
  intro f s h hw mine present taken freed
  -- WRITE and EXCHANGE reach the claim's own rules.
  have write {v t reply} (e : writeClaim f.port v (begun f.port s) = (begun f.port t, reply)) :
      exec (.stagingClaimWrite f v) s = .next (served f reply t) :=
    (arrival_write h v (.inl rfl) hw).trans (next_served e)
  have exchange {e v t reply} (x : exchangeClaim f.port e v (begun f.port s) = (begun f.port t, reply)) :
      exec (.stagingClaimExchange f e v) s = .next (served f reply t) :=
    (arrival_exchange h e v (.inl rfl) hw).trans (next_served x)
  have own : claimNamed f.port mine = some (some f.port) := claimNamed_own f.port
  have expected : ¬ present ≠ natWord (claimCode (begun f.port s).tariff.claim) := not_not.mpr rfl
  refine ⟨fun v e h0 hm => ?illegal, fun e v hv he => ?unexpected, fun hc => ?free, fun hc => ?held,
    fun q hq hc => ?other⟩
  case illegal =>
    constructor
    · refine write ?_
      unfold writeClaim
      rw [claimNamed_other h0 hm]
      rfl
    · refine exchange ?_
      unfold exchangeClaim
      rw [claimNamed_other h0 hm]
      rfl
  case unexpected =>
    obtain ⟨x, named⟩ := claimNamed_legal hv
    exact exchange ((exchangeClaim_named named _).trans (if_pos he))
  case free =>
    have free : (begun f.port s).tariff.claim = none := hc
    refine ⟨write ?_, exchange ?_, write ?_, exchange ?_⟩
    · rw [writeClaim_named own, free, if_neg nofun, if_pos rfl]
      rfl
    · rw [exchangeClaim_named own, if_neg expected, if_pos rfl, free]
      rfl
    · rw [writeClaim_named rfl, if_pos free]
      rfl
    · rw [exchangeClaim_named rfl, if_neg expected, if_neg nofun, if_pos (.inl free), onTariff, ← free]
      rfl
  case held =>
    have held : (begun f.port s).tariff.claim = some f.port := hc
    refine ⟨write ?_, exchange ?_, write ?_, exchange ?_⟩
    · rw [writeClaim_named own, if_pos held]
      rfl
    · rw [exchangeClaim_named own, if_neg expected, if_pos rfl, held, takeClaimFrom, if_pos rfl]
      rfl
    · rw [writeClaim_named rfl, held, if_neg nofun, if_neg nofun, if_pos rfl]
      rfl
    · rw [exchangeClaim_named rfl, if_neg expected, if_neg nofun, if_pos (.inr held)]
      rfl
  case other =>
    have held : (begun f.port s).tariff.claim = some q := hc
    have differs : some q ≠ some f.port := fun e => hq (Option.some.inj e)
    refine ⟨write ?_, write ?_, exchange ?_, ?_⟩
    · rw [writeClaim_named own, held, if_neg differs, if_neg nofun, if_neg differs]
      rfl
    · rw [writeClaim_named rfl, held, if_neg nofun, if_neg nofun, if_neg differs]
      rfl
    · rw [exchangeClaim_named rfl, if_neg expected, if_neg nofun, held, if_neg (by simpa using hq)]
      rfl
    · have e : exchangeClaim f.port present mine (begun f.port s) =
          done (raiseFor .claimLost q (onTariff (takeClaim f.port) (begun f.port s))) := by
        rw [exchangeClaim_named own, if_neg expected, if_pos rfl, held, takeClaimFrom, if_neg hq]
      refine ⟨_, arrival_exchange h present mine (.inl rfl) hw, ?_⟩
      change (exchangeClaim f.port present mine (begun f.port s)).1.tariff = _ ∧
        (exchangeClaim f.port present mine (begun f.port s)).1.engine.latches.get q &&& _ = _ ∧
        ∀ r, r ≠ q → (exchangeClaim f.port present mine (begun f.port s)).1.engine.latches.get r = _
      rw [e]
      exact ⟨raiseFor_tariff _ _ _, raiseFor_latched _ _ (latching_running h.1),
        fun r hr => raiseFor_latches_other hr _ _⟩

/-! ## Writes of the pending schedule (R85) -/

/-- The claim holder's write of the pending schedule is its value, or RANGE (R85). -/
theorem writePending_held {p : Port} {s : State} (h : s.tariff.claim = some p) (c : Option Schedule) :
    writePending p c s = store c (fun c t => onTariff (fun u => { u with pending := c }) t) s := if_pos h

/-- Without the claim every write of the pending schedule is refused (R85). -/
theorem writePending_unclaimed {p : Port} {s : State} (h : s.tariff.claim ≠ some p) (c : Option Schedule) :
    writePending p c s = refuse .claimed s := if_neg h

/-- An entry put at an index below the count replaces it, at the count it is appended (Table 5-4). -/
theorem putEntry_eq {α : Type} (xs : List α) (i : Nat) (x : α) :
    putEntry xs i x = if i ≤ xs.length then some (xs.take i ++ x :: xs.drop (i + 1)) else none := by
  unfold putEntry
  rcases Nat.lt_trichotomy i xs.length with h | h | h
  · rw [if_pos h, if_pos h.le, List.set_eq_take_append_cons_drop, if_pos h]
  · subst h
    simp
  · rw [if_neg (by omega), if_neg (by omega), if_neg (by omega)]

/-- A WRITE, or an EXCHANGE that expects the present value, reaches the owner's rule (R162). -/
theorem puts_served {s t : State} (h : Ready s) {f : Sender} {o : Obj} {w : WriteForm} {v : Word} {reply : Reply}
    (hw : MayWrite s f.port o) (ha : o.access = .readWrite) (hc : o ≠ .claim)
    (hp : w = .write v ∨ ∃ old, readObject s f.port o = .value old ∧ w = .exchange old v)
    (e : writeObject f.port o v (begun f.port s) = (begun f.port t, reply)) :
    arrival f (requestOfForm f o w) s = .next (served f reply t) := by
  rcases hp with rfl | ⟨old, hr, rfl⟩
  · exact (arrival_write h v (.inl ha) hw).trans (next_served e)
  · exact put_served h hw (.inr rfl) ha hc hr e

theorem group_pendingItem (i : ScheduleItem) : (Obj.pendingItem i).group = Obj.scheduleEntry.group := by
  cases i with
  | switchCount t => revert t; decide
  | _ => rfl

/-- The copy that the entry at a port's cursor belongs to decides who may write it (R85, R164). -/
theorem writeScheduleEntry_pending {p : Port} {w : Word} {s : State}
    (h : cursorCopy (s.engine.cursors.get p) = some .pending) :
    writeScheduleEntry p w s = writePending p (writeEntry s.tariff.pending (s.engine.cursors.get p) w) s := by
  unfold writeScheduleEntry
  rw [h]

theorem writeScheduleEntry_active {p : Port} {w : Word} {s : State}
    (h : cursorCopy (s.engine.cursors.get p) = some .active) : writeScheduleEntry p w s = refuse .denied s := by
  unfold writeScheduleEntry
  rw [h]

theorem writeScheduleEntry_none {p : Port} {w : Word} {s : State}
    (h : cursorCopy (s.engine.cursors.get p) = none) : writeScheduleEntry p w s = refuse .badRequest s := by
  unfold writeScheduleEntry
  rw [h]

/-- The cursors that name an entry of a copy of the schedule. -/
theorem cursorCopy_of {x : Cursor} {c : ScheduleCopy} {i : Nat}
    (h : x = .special c i ∨ x = .week c i ∨ ∃ t, x = .switch t c i) : cursorCopy x = some c := by
  rcases h with rfl | rfl | ⟨t, rfl⟩ <;> rfl

/-- A READ, CHECK or EXCHANGE at a cursor on no schedule table is refused (R164, notes/assumptions/26.md). -/
theorem readObject_scheduleEntry_none {s : State} {p : Port}
    (h : s.engine.cursors.get p = .unset ∨ ∃ i, s.engine.cursors.get p = .freeze i) :
    readObject s p .scheduleEntry = .refused .badRequest := by
  rcases h with h | ⟨i, h⟩ <;> simp [readObject, h, entryAt]

/-- The claim holder's write stores the pending record that it names, or is refused with RANGE (R85). -/
theorem pending_served {s : State} (h : Ready s) {f : Sender} {o : Obj} {w : WriteForm} {v : Word} {legal : Prop}
    [Decidable legal] {x : Option Schedule} {c : Schedule} (hw : MayWrite s f.port o) (ha : o.access = .readWrite)
    (hn : o ≠ .claim) (hp : w = .write v ∨ ∃ old, readObject s f.port o = .value old ∧ w = .exchange old v)
    (hc : s.tariff.claim = some f.port)
    (e : writeObject f.port o v (begun f.port s) = writePending f.port x (begun f.port s))
    (hx : x = if legal then some c else none) :
    arrival f (requestOfForm f o w) s = .next (
      if legal then served f doneReply { s with tariff := { s.tariff with pending := c } }
      else served f (plainReply .range) s) := by
  have stores := e.trans (writePending_held (s := begun f.port s) hc x)
  split
  · next l => exact puts_served h hw ha hn hp (stores.trans (store_some (hx.trans (if_pos l)) _ _))
  · next l => exact puts_served h hw ha hn hp (stores.trans (store_none (hx.trans (if_neg l)) _ _))

theorem map_ite_some {α β : Type} (g : α → β) (legal : Prop) [Decidable legal] (a : α) :
    (if legal then some a else none).map g = if legal then some (g a) else none := by
  split <;> rfl

/-- A week entry takes a day type of one byte (R85). -/
theorem writeEntry_week (c : Schedule) (copy : ScheduleCopy) {i : Nat} (h : i < 7) (v : Word) :
    writeEntry c (.week copy i) v = if v.toNat ≤ 255 then some { c with week := c.week.set i v.toNat h } else none := by
  by_cases l : v.toNat ≤ 255 <;> simp [writeEntry, h, l]

/-- A special-day entry replaces one, or is appended at the count (R85). -/
theorem writeEntry_special (c : Schedule) (copy : ScheduleCopy) (i : Nat) (v : Word) :
    writeEntry c (.special copy i) v =
      if v.toNat % 65536 ≤ 255 ∧ i ≤ c.special.length then
        some { c with special := c.special.take i ++ ⟨v.toNat / 65536, v.toNat % 65536⟩ :: c.special.drop (i + 1) }
      else none := by
  simp only [writeEntry, putEntry_eq, map_ite_some, ite_and]

/-- A switch entry replaces one, or is appended at the count (R85). -/
theorem writeEntry_switch (c : Schedule) (copy : ScheduleCopy) (t : Fin 4) (i : Nat) (v : Word) :
    writeEntry c (.switch t copy i) v =
      if v.toNat % 65536 ≤ 255 ∧ i ≤ (c.switches.get t).length then
        some { c with switches := c.switches.set t.val ((c.switches.get t).take i ++
          ⟨v.toNat / 65536, v.toNat % 65536⟩ :: (c.switches.get t).drop (i + 1)) t.isLt }
      else none := by
  simp only [writeEntry, putEntry_eq, map_ite_some, ite_and]

/-- Settles O10. -/
theorem pendingScheduleWrites : Obligations.PendingScheduleWrites := by
  intro f w v s h hw c puts stored refused
  have entry {t reply} (hp : puts .scheduleEntry) := puts_served (t := t) (reply := reply) h hw rfl nofun hp
  refine ⟨fun hc => ⟨fun i hp target ht => ?unclaimedItem, fun i hcur hp => ?unclaimedEntry⟩, fun hcur => ?noTable,
    fun i hcur hp => ?active, fun hc => ⟨fun hp => ?revision, fun hp => ?specialCount, fun t hp => ?switchCount,
      fun hp i hi hcur => ?week, fun hp i hcur => ?special, fun hp i t hcur => ?switch⟩⟩
  case unclaimedItem =>
    have e : arrival f (requestOfForm f (.pendingItem i) w) s = .next (refused .claimed) :=
      puts_served h (hw.group (group_pendingItem i)) rfl nofun hp
        (writePending_unclaimed (s := begun f.port s) hc (writeItem c v i))
    rwa [← ht] at e
  case unclaimedEntry =>
    have pending : cursorCopy ((begun f.port s).engine.cursors.get f.port) = some .pending := cursorCopy_of hcur
    exact entry hp ((writeScheduleEntry_pending pending).trans (writePending_unclaimed (s := begun f.port s) hc _))
  case noTable =>
    have none : cursorCopy ((begun f.port s).engine.cursors.get f.port) = .none := by
      rcases hcur with e | ⟨i, e⟩ <;> exact congrArg cursorCopy e
    cases w with
    | write x => exact (arrival_write h x (.inl rfl) hw).trans (next_served (writeScheduleEntry_none none))
    | exchange old x =>
      refine (arrival_exchange h old x (.inl rfl) hw).trans (next_served ?_)
      have read : readObject (begun f.port s) f.port .scheduleEntry = .refused .badRequest :=
        readObject_scheduleEntry_none hcur
      simp only [exchangeObject, presentValue, read]
      rfl
  case active =>
    have active : cursorCopy ((begun f.port s).engine.cursors.get f.port) = some .active := cursorCopy_of hcur
    exact entry hp (writeScheduleEntry_active active)
  case revision => exact pending_served h (hw.group (group_pendingItem _)) rfl nofun hp hc rfl rfl
  case specialCount =>
    exact pending_served h (hw.group (group_pendingItem _)) rfl nofun hp hc rfl (map_ite_some _ _ _)
  case switchCount =>
    exact pending_served h (hw.group (group_pendingItem _)) rfl nofun hp hc rfl (map_ite_some _ _ _)
  case week =>
    refine pending_served h hw rfl nofun hp hc (writeScheduleEntry_pending (congrArg cursorCopy hcur)) ?_
    exact (congrArg (writeEntry c · v) hcur).trans (writeEntry_week c .pending hi v)
  case special =>
    refine pending_served h hw rfl nofun hp hc (writeScheduleEntry_pending (congrArg cursorCopy hcur)) ?_
    exact (congrArg (writeEntry c · v) hcur).trans (writeEntry_special c .pending i v)
  case switch =>
    refine pending_served h hw rfl nofun hp hc (writeScheduleEntry_pending (congrArg cursorCopy hcur)) ?_
    exact (congrArg (writeEntry c · v) hcur).trans (writeEntry_switch c .pending t i v)

/-! ## ARM, DISARM and DISCARD (R86 to R88) -/

/-- A list whose every entry passes its test against the entry before it has no fault (R86). -/
theorem firstBad_none {α : Type} {ok : Option α → α → Bool} {before : Option α} {xs : List α} (i : Nat)
    (single : ∀ x ∈ xs, ok none x = true)
    (ordered : xs.Pairwise fun a b => ok none b = true → ok (some a) b = true)
    (first : ∀ x ∈ xs, ok before x = true) : firstBad ok before xs i = none := by
  induction xs generalizing before i with
  | nil => rfl
  | cons x xs ih =>
    obtain ⟨after, rest⟩ := List.pairwise_cons.mp ordered
    rw [firstBad, if_pos (first x (.head _))]
    exact ih (i + 1) (fun y hy => single y (.tail _ hy)) rest fun y hy => after y hy (single y (.tail _ hy))

/-- A pending record that satisfies the four conditions of R86 has no fault. -/
theorem scheduleFault_none {c : Schedule} (week : ∀ i, c.week.get i ≤ 3) (types : ∀ e ∈ c.special, e.dayType ≤ 3)
    (days : (c.special.map SpecialDay.day).Pairwise (· < ·))
    (lists : ∀ t : Fin 4, ((c.switches.get t).map Switch.minute).Pairwise (· < ·) ∧
      ∀ w ∈ c.switches.get t, w.minute ≤ 1439 ∧ 1 ≤ w.band ∧ w.band ≤ 6) : scheduleFault c = none := by
  have noWeek : firstBad (fun _ t => decide (t ≤ 3)) none c.week.toList 0 = none := by
    have bounded : ∀ x ∈ c.week.toList, decide (x ≤ 3) = true := by
      intro x hx
      obtain ⟨i, hi, rfl⟩ := List.mem_iff_getElem.mp hx
      exact decide_eq_true (week ⟨i, by simpa using hi⟩)
    exact firstBad_none 0 bounded (List.pairwise_of_forall fun _ _ h => h) bounded
  have noSpecial : firstBad specialOk none c.special 0 = none := by
    have single : ∀ e ∈ c.special, specialOk none e = true := fun e he => by simp [specialOk, types e he]
    refine firstBad_none 0 single ((List.pairwise_map.mp days).imp fun lt ok => ?_) single
    simpa [specialOk, lt] using ok
  have noSwitch (t : Fin 4) : switchFault c t = none := by
    obtain ⟨minutes, legal⟩ := lists t
    have single : ∀ w ∈ c.switches.get t, switchOk none w = true := fun w hw => by simp [switchOk, legal w hw]
    rw [switchFault, firstBad_none 0 single ((List.pairwise_map.mp minutes).imp fun lt ok => ?_) single]
    · rfl
    · simpa [switchOk, lt] using ok
  simp [scheduleFault, noWeek, noSpecial, noSwitch]

/-- A week table whose first entry holds no day type is at fault there (R86, R175). -/
theorem scheduleFault_week {c : Schedule} (h : 3 < c.week.get 0) : scheduleFault c = some ⟨1, 0⟩ := by
  have first : firstBad (fun _ t => decide (t ≤ 3)) none c.week.toList 0 = some 0 := by
    have split : c.week.toList = c.week.get 0 :: c.week.toList.tail := by
      obtain ⟨⟨l⟩, hl⟩ := c.week
      cases l with
      | nil => simp at hl
      | cons x xs => rfl
    rw [split, firstBad, if_neg (by simpa using h)]
  simp [scheduleFault, first]

/-- Settles O11. -/
theorem armDisarmDiscard : Obligations.ArmDisarmDiscard := by
  intro f day minute s h hw
  have arm {t reply} := command_served (t := t) (reply := reply) (o := .arm) (ops := [day, minute]) h hw rfl rfl rfl
  have claimed (hc : s.tariff.claim = some f.port) : ¬ (begun f.port s).tariff.claim ≠ some f.port := not_not.mpr hc
  refine ⟨fun hc => arm (if_pos hc), fun hc hr => arm ((if_neg (claimed hc)).trans (if_pos hr)),
    fun hc hd hm week types days lists => ?valid, fun hc hd hm hk => ?invalid, ?disarm, ?discard⟩
  case valid =>
    have legal : ¬ (65535 < day.toNat ∨ 1439 < minute.toNat) := by omega
    refine arm ((if_neg (claimed hc)).trans ((if_neg legal).trans ?_))
    have valid : scheduleFault (begun f.port s).tariff.pending = none := scheduleFault_none week types days lists
    simp only [valid]
    rfl
  case invalid =>
    have legal : ¬ (65535 < day.toNat ∨ 1439 < minute.toNat) := by omega
    refine arm ((if_neg (claimed hc)).trans ((if_neg legal).trans ?_))
    have fault : scheduleFault (begun f.port s).tariff.pending = some ⟨1, 0⟩ := scheduleFault_week hk
    simp only [fault]
    rfl
  case disarm =>
    have disarm {t reply} := command_served (t := t) (reply := reply) (o := .disarm) (ops := []) h hw rfl rfl rfl
    by_cases hu : f.port = .utility
    · rw [if_neg (not_not.mpr hu)]
      have act : commandDisarm f.port (begun f.port s) = done (onTariff disarmSchedule (begun f.port s)) := if_pos hu
      by_cases ha : s.tariff.pendingState = .armed
      · rw [if_pos ha]
        exact disarm (act.trans (congrArg (fun u => done { begun f.port s with tariff := u }) (if_pos ha)))
      · rw [if_neg ha]
        exact disarm (act.trans (congrArg (fun u => done { begun f.port s with tariff := u }) (if_neg ha)))
    · rw [if_pos hu]
      exact disarm (if_neg hu)
  case discard =>
    split
    · next hc => exact command_served (ops := []) h hw rfl rfl rfl (if_pos hc)
    · next hc => exact command_served (ops := []) h hw rfl rfl rfl (if_neg hc)

end Sys2Proof.Machine
end

section
/-! PROOF. Commands on the log, the netting totals, test mode and the store (R52, R105 to R109, R112, R137, R140, R154,
R155). -/

namespace Sys2Proof.Machine

/-! ## Read contexts (R105 to R109) -/

/-- The right to read is one of the object's group (R160). -/
theorem MayRead.group {s : State} {p : Port} {o o' : Obj} (h : MayRead s p o) (e : o'.group = o.group) :
    MayRead s p o' := by
  rwa [MayRead, e]

/-- A log context command is answered by its own rule (R105, R165). -/
theorem context_served {s t : State} (h : Ready s) {f : Sender} {o : Obj} {ops : List Word} {reply : Reply}
    (hr : MayRead s f.port o) (ha : o.access = .command) (hn : ops.length = o.operandCount)
    (hc : o.isContextCommand = true)
    (e : commandObject f.port o (ops.getD 0 0) (ops.getD 1 0) (begun f.port s) = (begun f.port t, reply)) :
    arrival f (requestTo f .command o ops) s = .next (served f reply t) :=
  (arrival_context h ops ha hn hc hr).trans (next_served e)

/-- The held records by their two ends. -/
def Ends (rs : List LogRecord) (first last : LogRecord) : Prop := rs.head? = some first ∧ rs.getLast? = some last

theorem ends_of {rs between : List LogRecord} {first last : LogRecord}
    (h : rs = [first] ∧ last = first ∨ rs = first :: between ++ [last]) : Ends rs first last := by
  rcases h with ⟨rfl, rfl⟩ | rfl
  · exact ⟨rfl, rfl⟩
  · exact ⟨rfl, List.getLast?_concat⟩

theorem oldestSequence_of {l : Log} {first last : LogRecord} (h : Ends l.records first last) :
    oldestSequence l = first.sequence := by
  obtain ⟨first, -⟩ := h
  obtain ⟨rest, e⟩ := List.head?_eq_some_iff.mp first
  rw [oldestSequence, e, oldestOr]

theorem newestPosition_of {l : Log} {first last : LogRecord} (h : Ends l.records first last) :
    newestPosition l = last.sequence := by
  rw [newestPosition, newestRecord, h.2]
  rfl

/-- The context that LOG START AT sets, by the ends of the held range (R107). -/
theorem startAt_of {l : Log} {first last : LogRecord} (h : Ends l.records first last) (n : Nat) :
    startAt l n =
      if n = 0 ∨ last.sequence + 1 < n then none
      else if n < first.sequence then some ⟨true, first.sequence, min 4294967295 (first.sequence - n)⟩
      else some ⟨true, n, 0⟩ := by
  have past : pastNewest l = last.sequence + 1 := by
    rw [pastNewest, newestRecord, h.2]
    rfl
  rw [startAt, past, oldestSequence_of h, addSaturating, Nat.zero_add]

/-- The record of a held sequence is the one that a context at it reads (R108). -/
theorem recordFrom_held {l : Log} (rising : (l.records.map LogRecord.sequence).Pairwise (· < ·)) {r : LogRecord}
    (h : r ∈ l.records) : recordFrom l r.sequence = some r := by
  obtain ⟨before, after, e⟩ := List.append_of_mem h
  refine List.find?_eq_some_iff_append.mpr ⟨decide_eq_true le_rfl, before, after, e, fun x hx => ?_⟩
  rw [e, List.map_append, List.pairwise_append] at rising
  obtain ⟨-, -, lower⟩ := rising
  have lt := lower x.sequence (List.mem_map_of_mem hx) r.sequence (by simp)
  simpa using lt

/-- Past the newest record a context reads nothing (R108). -/
theorem recordFrom_past {l : Log} {n : Nat} (h : ∀ r ∈ l.records, r.sequence < n) : recordFrom l n = none :=
  List.find?_eq_none.mpr fun r hr => by simpa using h r hr

/-- Settles O13. -/
theorem contextCommands : Obligations.ContextCommands := by
  intro f n s h hr law at' c
  obtain ⟨⟨-, rising, -, -⟩, -⟩ := law
  have oldest {t reply} := context_served (t := t) (reply := reply) (o := .startOldest) (ops := []) h hr rfl rfl rfl
  have newest {t reply} := context_served (t := t) (reply := reply) (o := .startNewest) (ops := []) h hr rfl rfl rfl
  have startsAt {t reply} := context_served (t := t) (reply := reply) (o := .startAt) (ops := [n]) h hr rfl rfl rfl
  have next {t reply} := context_served (t := t) (reply := reply) (o := .readNext) (ops := []) h hr rfl rfl rfl
  refine ⟨context_served (ops := []) h hr rfl rfl rfl rfl, fun he => ⟨oldest ?_, newest ?_⟩, fun first last between hb => ?held,
    fun hi => ?idle, fun r hm hc hn => ?reads, fun hc hp => ?past⟩
  · have e : oldestSequence s.log = s.log.next := by rw [oldestSequence, he, oldestOr]
    exact congrArg (fun k => done (onLog (setContext f.port ⟨true, k, 0⟩) (begun f.port s))) e
  · have e : newestPosition s.log = s.log.next := by
      rw [newestPosition, newestRecord, he]
      rfl
    exact congrArg (fun k => done (onLog (setContext f.port ⟨true, k, 0⟩) (begun f.port s))) e
  case held =>
    have ends := ends_of hb
    refine ⟨oldest ?_, newest ?_, ?_⟩
    · exact congrArg (fun k => done (onLog (setContext f.port ⟨true, k, 0⟩) (begun f.port s))) (oldestSequence_of ends)
    · exact congrArg (fun k => done (onLog (setContext f.port ⟨true, k, 0⟩) (begun f.port s))) (newestPosition_of ends)
    · have e := startAt_of ends n.toNat
      split
      · next refused => exact startsAt (store_none (e.trans (if_pos refused)) _ _)
      · next legal =>
        rw [if_neg legal] at e
        split
        · next below => exact startsAt (store_some (e.trans (if_pos below)) _ _)
        · next within => exact startsAt (store_some (e.trans (if_neg within)) _ _)
  case idle =>
    have idle : ((begun f.port s).log.contexts.get f.port).reading ≠ true := by
      rw [show ((begun f.port s).log.contexts.get f.port).reading = false from hi]
      decide
    exact next (if_neg idle)
  case reads =>
    have found : recordFrom (begun f.port s).log ((begun f.port s).log.contexts.get f.port).next = some r :=
      (congrArg (recordFrom s.log) hn).trans (recordFrom_held rising hm)
    refine next ((if_pos hc).trans ?_)
    simp only [found]
    rfl
  case past =>
    have none : recordFrom (begun f.port s).log ((begun f.port s).log.contexts.get f.port).next = .none :=
      recordFrom_past hp
    refine next ((if_pos hc).trans ?_)
    simp only [none]
    rfl

/-! ## TOTALS CLEAR and LOG CLEAR (R52, R112) -/

/-- Settles O14. -/
theorem totalsAndLogClear : Obligations.TotalsAndLogClear := by
  intro f s h hw
  have clear {t reply} := command_served (t := t) (reply := reply) (o := .logClear) (ops := []) h hw rfl rfl rfl
  refine ⟨command_served (ops := []) h hw rfl rfl rfl rfl, ?_⟩
  by_cases hs : f.port = .service
  · rw [if_neg (not_not.mpr hs)]
    by_cases hq : s.log.queue = []
    · rw [if_neg (not_not.mpr hq)]
      have ready : logReady (begun f.port s).log = true := List.isEmpty_iff.mpr hq
      refine clear ((if_pos hs).trans ((if_pos ready).trans ?_))
      simp only [onLog, clearLog, begun, hq]
      rfl
    · rw [if_pos hq]
      have committing : logReady (begun f.port s).log ≠ true := fun e => hq (List.isEmpty_iff.mp e)
      exact clear ((if_pos hs).trans (if_neg committing))
  · rw [if_pos hs]
    exact clear (if_neg hs)

/-! ## Test mode (R137, R140) -/

theorem serviceClosed_iff {p : Port} {s : State} :
    serviceClosed p s = true ↔ p = .service ∧ s.engine.enable = true := by
  simp [serviceClosed]

/-- Settles O15. -/
theorem testModeCommands : Obligations.TestModeCommands := by
  intro f s h hw
  have on {out} := command_answered (out := out) (o := .testOn) (ops := []) h hw rfl rfl rfl
  have off {out} := command_answered (out := out) (o := .testOff) (ops := []) h hw rfl rfl rfl
  refine ⟨fun hp => ?denied, fun hp he ht => ?normal, fun hp he ht => ?testing⟩
  case denied =>
    have closed : ¬ serviceClosed f.port (begun f.port s) = true := fun e => hp (serviceClosed_iff.mp e).1
    exact ⟨command_served (ops := []) h hw rfl rfl rfl (if_neg closed),
      command_served (o := .testOff) (ops := []) h hw rfl rfl rfl (if_neg closed)⟩
  all_goals
    have closed : serviceClosed f.port (begun f.port s) = true := serviceClosed_iff.mpr ⟨hp, he⟩
  case normal =>
    have normal : ¬ (begun f.port s).pulse.test = true := by
      rw [show (begun f.port s).pulse.test = false from ht]
      decide
    refine ⟨⟨_, on ((if_pos closed).trans (if_neg normal)), ?_, ?_⟩, ?_⟩
    · exact latched_raise .testModeChange (latching_running h.1)
    · exact raise_pulse _ _
    · refine command_served (o := .testOff) (ops := []) h hw rfl rfl rfl ((if_pos closed).trans ?_)
      exact congrArg done (if_neg normal)
  case testing =>
    refine ⟨command_served (ops := []) h hw rfl rfl rfl ((if_pos closed).trans (if_pos ht)), ?_⟩
    have ends : endTest .command (begun f.port s) = raise .testModeChange { begun f.port s with
        pulse := { s.pulse with test := false, pendingCount := 0, timer := 0, lastExit := .command } } := if_pos ht
    refine ⟨_, off ((if_pos closed).trans (congrArg done ends)), ?_, ?_⟩
    · exact latched_raise .testModeChange (latching_running h.1)
    · exact raise_pulse _ _

/-! ## RESTART and CLEAR ALL (R145, R154, R155) -/

/-- Entering SAVING leaves the sensing blocks at rest and no request waiting, and the blocks behind them as they were
(R145). -/
theorem enterSaving_shape (c : SaveCause) (s : State) : ∃ m w, enterSaving c s = { s with
    store := { s.store with state := .saving, cause := c, write := .idle }
    assembly := stopSensing s.assembly
    engine := stopEngine s.engine
    metrology := m
    wires := w } := by
  unfold enterSaving stopMeasuring
  split
  · exact ⟨s.metrology, s.wires, rfl⟩
  · exact ⟨_, _, rfl⟩

/-- A command that takes a ready part to SAVING: what the statement of RESTART and CLEAR ALL asks of it. -/
theorem answered_saving (f : Sender) (c : SaveCause) (s : State) :
    let t := answered f (done (enterSaving c (begun f.port s)))
    t.store.state = .saving ∧ t.store.cause = c ∧ t.assembly.openSets = [] ∧
      (∀ φ, (t.assembly.links.get φ).control = .empty) ∧ t.engine.queues = .all [] ∧
      (t.engine.outbox.get f.port).getLast? = some (.executed f.tag doneReply) ∧
      t.tariff = s.tariff ∧ t.netting = s.netting ∧ t.log = s.log ∧ t.interval = s.interval ∧
      t.envelope = s.envelope ∧ t.pulse = s.pulse ∧ t.timeBase = s.timeBase := by
  obtain ⟨m, w, e⟩ := enterSaving_shape c (begun f.port s)
  rw [e]
  refine ⟨rfl, rfl, rfl, fun φ => ?_, rfl, ?_, rfl, rfl, rfl, rfl, rfl, rfl, rfl⟩
  · cases φ <;> rfl
  · simp only [answered, formAnswer, PerPort.get_set_same]
    exact List.getLast?_concat

/-- Settles O16. -/
theorem restartAndClearAll : Obligations.RestartAndClearAll := by
  intro f s h hw entered
  refine ⟨fun hp => ?premises, fun hp => ?restart, fun hp => ?denied, fun hp he => ?clear⟩
  case premises =>
    refine command_served (ops := []) h hw rfl rfl rfl (if_neg ?_)
    simp [serviceClosed, hp]
  case restart =>
    have may : (decide (f.port = .utility) || serviceClosed f.port (begun f.port s)) = true := by
      rcases hp with hp | ⟨hp, he⟩
      · simp [hp]
      · simp [serviceClosed, hp, begun, he]
    exact ⟨_, command_answered (ops := []) h hw rfl rfl rfl (if_pos may), answered_saving f .restart s⟩
  case denied =>
    have open' : ¬ serviceClosed f.port (begun f.port s) = true := fun e => hp (serviceClosed_iff.mp e).1
    exact command_served (o := .clearAll) (ops := []) h hw rfl rfl rfl (if_neg open')
  case clear =>
    have closed : serviceClosed f.port (begun f.port s) = true := serviceClosed_iff.mpr ⟨hp, he⟩
    exact ⟨_, command_answered (o := .clearAll) (ops := []) h hw rfl rfl rfl (if_pos closed),
      answered_saving f .clearAll s⟩

end Sys2Proof.Machine
end

section
/-! PROOF. Latch, enable and rights objects, cursors, CHECK, and what the stages of R160 refuse (R160 to R172). -/

namespace Sys2Proof.Machine

/-! ## The latch and enable objects (R170 to R172) -/

theorem eventsNamed_eventWord (x : EventSet) : eventsNamed (eventWord x) = some x := by
  have small : (eventWord x).toNat < 2 ^ 15 := by
    rw [eventWord, BitVec.toNat_setWidth]
    exact lt_of_le_of_lt (Nat.mod_le _ _) x.isLt
  rw [eventsNamed, if_pos small, eventWord]
  congr 1
  ext i hi
  simp only [BitVec.getElem_setWidth, BitVec.getLsbD_setWidth]
  simp [show i < 32 by omega, BitVec.getLsbD_eq_getElem hi]

/-- A READ of the latch object alone from a ready part (R161, R170). -/
theorem latchRead_answered {s : State} (h : Ready s) {f : Sender} (hr : MayRead s f.port .latch) :
    arrival f (readRequest f .latch 1#8) s = .next (answered f (clearLatch f.port (begun f.port s),
      doneWith [eventWord (s.engine.latches.get f.port)])) := by
  have e : executeRequest f.port (readRequest f .latch 1#8) (begun f.port s) =
      (clearLatch f.port (begun f.port s), doneWith [eventWord (s.engine.latches.get f.port)]) := by
    have allows : allowed (begun f.port s).engine f.port .read .latch = true := by
      rcases hr with hr | hr <;> simp [allowed, writes, hr]
    change (if !allowed (begun f.port s).engine f.port .read .latch then _ else _) = _
    rw [allows]
    rfl
  unfold arrival answered
  rw [submit_ready h, e]
  rfl

/-- The attention line of a port after its enable set is written, at a part that takes requests (R172). -/
theorem setEnable_line {s : State} (h : s.store.state = .running) (p : Port) (x : EventSet) :
    (setEnable p x s).engine.lines.get p = true ↔ s.engine.latches.get p &&& x ≠ 0#15 := by
  simp [setEnable, setLines, attention, h, latching]

/-- An enable set that is written at a ready part, with its answer (R171, R172). -/
theorem answered_setEnable {s : State} (h : Ready s) (f : Sender) (x : EventSet) (reply : Reply) :
    let t := answered f (setEnable f.port x (begun f.port s), reply)
    (t.engine.outbox.get f.port).getLast? = some (.executed f.tag reply) ∧
      t.engine.enables = s.engine.enables.set f.port x ∧ t.engine.latches = s.engine.latches ∧
      (t.engine.lines.get f.port = true ↔ s.engine.latches.get f.port &&& x ≠ 0#15) := by
  refine ⟨?_, rfl, rfl, setEnable_line (s := begun f.port s) h.1 f.port x⟩
  simp only [answered, formAnswer, PerPort.get_set_same]
  exact List.getLast?_concat

/-- Settles O17. -/
theorem latchAndEnable : Obligations.LatchAndEnable := by
  intro f s h
  have write (hw : MayWrite s f.port .enable) (v) : exec (.enableSetWrite f (.write v)) s =
      .next (answered f (writeEnable f.port v (begun f.port s))) := arrival_write h v (.inr rfl) hw
  have modify (hw : MayWrite s f.port .enable) (m v) : exec (.enableSetWrite f (.modify m v)) s =
      .next (answered f (modifyEnable f.port m v (begun f.port s))) := by
    have hw' : effectiveRight s.engine f.port Obj.enable.group = .write := hw
    refine (arrival_ready h f .modify .enable [m, v] rfl).trans ?_
    simp [executeOn, fits, Obj.access, writes, allowed, hw', ownerActs, requestTo, rawRequest, modifyObject]
  refine ⟨fun hr => ⟨_, latchRead_answered h hr, ?_, ?_, ?_, fun q hq => ?_⟩, fun hw x w hx => ?enable,
    fun hw m x => ?masked, fun hw v m hv => ?range⟩
  · simp only [answered, formAnswer, PerPort.get_set_same]
    exact List.getLast?_concat
  · exact PerPort.get_set_same _ _ _
  · simp [answered, formAnswer, clearLatch, setLines, attention]
  · exact PerPort.get_set_ne _ _ hq
  case enable =>
    have stores : writeEnable f.port (eventWord x) (begun f.port s) = done (setEnable f.port x (begun f.port s)) :=
      store_some (eventsNamed_eventWord x) _ _
    refine ⟨_, ?_, answered_setEnable h f x doneReply⟩
    rcases hx with rfl | rfl
    · exact (write hw _).trans (by rw [stores]; rfl)
    · refine (arrival_exchange h _ _ (.inr rfl) hw).trans ?_
      have read : readObject (begun f.port s) f.port .enable = .value (eventWord (s.engine.enables.get f.port)) := rfl
      have acts : exchangeObject f.port .enable (eventWord (s.engine.enables.get f.port)) (eventWord x)
          (begun f.port s) = writeEnable f.port (eventWord x) (begun f.port s) := by
        simp [exchangeObject, presentValue, read, writeObject]
      rw [acts, stores]
      rfl
  case masked =>
    have acts : modifyEnable f.port (eventWord m) (eventWord x) (begun f.port s) =
        (setEnable f.port (modifySet (s.engine.enables.get f.port) m x) (begun f.port s),
          doneWith [eventWord (modifySet (s.engine.enables.get f.port) m x)]) := by
      simp only [modifyEnable, eventsNamed_eventWord]
      rfl
    exact ⟨_, (modify hw _ _).trans (by rw [acts]; rfl), answered_setEnable h f _ _⟩
  case range =>
    have none : eventsNamed v = .none := if_neg (by omega)
    refine ⟨(write hw v).trans (next_served (store_none none _ _)), (modify hw v m).trans (next_served ?_),
      (modify hw m v).trans (next_served ?_)⟩
    · simp only [modifyEnable, none]
      rfl
    · simp only [modifyEnable, none]
      split
      · next hv => cases hv
      · rfl

/-! ## Rights (R166, R167) -/

theorem rightNamed_code (r : Right) : rightNamed (natWord (rightCode r)) = some r := by cases r <;> rfl

/-- A port's right depends on the map alone (R166). -/
theorem mapRight_of_rights {g g' : Engine} (h : g.rights = g'.rights) : mapRight g = mapRight g' := by
  funext p x
  cases p with
  | utility => rfl
  | premises => rw [mapRight, mapRight, h]
  | service => rw [mapRight, mapRight, h]

theorem groupIndex_inj {x y : Group} (h : groupIndex x = groupIndex y) : x = y := by
  revert h
  cases x <;> cases y <;> decide

/-- The map after an entry is stored (R167). -/
theorem mapRight_putRight (g : Engine) {row : Port} (hr : row ≠ .utility) (x : Group) (r : Right) (q : Port) (y : Group) :
    mapRight { g with rights := putRight row x r g.rights } q y = if q = row ∧ y = x then r else mapRight g q y := by
  have entry (v : Vector Right 16) : (v.set (groupIndex x).val r).get (groupIndex y) =
      if y = x then r else v.get (groupIndex y) := by
    change (v.set (groupIndex x).val r)[(groupIndex y).val] = _
    rw [Vector.getElem_set]
    by_cases e : y = x
    · rw [e, if_pos rfl, if_pos rfl]
    · rw [if_neg e, if_neg fun i => e (groupIndex_inj (Fin.ext i.symm))]
      rfl
  cases row with
  | utility => exact absurd rfl hr
  | premises => cases q <;> simp [mapRight, putRight, entry]
  | service => cases q <;> simp [mapRight, putRight, entry]

/-- The loss of a claim changes the claim, latches and lines alone (R84). -/
theorem loseClaim_shape (p : Port) (s : State) : ∃ c a l, loseClaim p s = { s with
    tariff := { s.tariff with claim := c }, engine := { s.engine with latches := a, lines := l } } := by
  unfold loseClaim
  split
  · obtain ⟨a, l, e⟩ := raiseFor_shape .claimLost p { s with tariff := { s.tariff with claim := none } }
    exact ⟨_, a, l, e⟩
  · exact ⟨s.tariff.claim, s.engine.latches, s.engine.lines, rfl⟩

/-- A right stored in the map, before the tariff unit is told of a loss (R167). -/
def putMap (row : Port) (x : Group) (r : Right) (s : State) : State :=
  { s with engine := { s.engine with rights := putRight row x r s.engine.rights } }

theorem setRight_eq (row : Port) (x : Group) (r : Right) (s : State) : setRight row x r s =
    if effectiveRight s.engine row .schedule = .write ∧ effectiveRight (putMap row x r s).engine row .schedule ≠ .write
    then loseClaim row (putMap row x r s) else putMap row x r s := rfl

/-- A changed right touches the map, the claim, latches and lines alone (R167). -/
theorem setRight_shape (row : Port) (x : Group) (r : Right) (s : State) : ∃ c a l, setRight row x r s =
    { putMap row x r s with
      tariff := { s.tariff with claim := c }
      engine := { (putMap row x r s).engine with latches := a, lines := l } } := by
  rw [setRight_eq]
  split
  · exact loseClaim_shape row (putMap row x r s)
  · exact ⟨s.tariff.claim, s.engine.latches, s.engine.lines, rfl⟩

/-- The effective right depends on the map and on the enable alone (R166). -/
theorem effectiveRight_eq {g g' : Engine} {p : Port} {x : Group} (he : g.enable = g'.enable)
    (hm : mapRight g p x = mapRight g' p x) : effectiveRight g p x = effectiveRight g' p x := by
  rw [effectiveRight, effectiveRight, he, hm]

/-- A right on another group than SCHEDULE leaves the claim (R167). -/
theorem setRight_other {row : Port} (hr : row ≠ .utility) {x : Group} (hx : x ≠ .schedule) (r : Right) (s : State) :
    setRight row x r s = putMap row x r s := by
  rw [setRight_eq, if_neg]
  rintro ⟨before, after⟩
  refine after (before ▸ effectiveRight_eq rfl ?_)
  exact (mapRight_putRight s.engine hr x r row .schedule).trans (if_neg fun e => hx e.2.symm)

/-- The loss of the premises port's WRITE on SCHEDULE takes its claim (R84, R167). -/
theorem setRight_loses {s : State} {r : Right} (hs : latching s.store.state = true) (hr : r ≠ .write)
    (before : mapRight s.engine .premises .schedule = .write) (hc : s.tariff.claim = some .premises) :
    (setRight .premises .schedule r s).tariff.claim = none ∧
      (setRight .premises .schedule r s).engine.latches.get .premises &&& eventSet .claimLost = eventSet .claimLost := by
  have had : effectiveRight s.engine .premises .schedule = .write := (if_neg nofun).trans before
  have lost : effectiveRight (putMap .premises .schedule r s).engine .premises .schedule ≠ .write := by
    have now : mapRight (putMap .premises .schedule r s).engine .premises .schedule = r :=
      (mapRight_putRight s.engine (row := .premises) nofun .schedule r .premises .schedule).trans (if_pos ⟨rfl, rfl⟩)
    rw [effectiveRight, if_neg nofun, now]
    exact hr
  have takes : loseClaim .premises (putMap .premises .schedule r s) = raiseFor .claimLost .premises
      { putMap .premises .schedule r s with tariff := { s.tariff with claim := none } } := if_pos hc
  rw [setRight_eq, if_pos ⟨had, lost⟩, takes]
  exact ⟨by rw [raiseFor_tariff], raiseFor_latched _ _ hs⟩

/-- A write of a read-only object in the right form is refused with DENIED (R160, stage 4). -/
theorem readOnly_denied {s : State} (h : Ready s) (f : Sender) {o : Obj} (ha : o.access = .readOnly) (w : WriteForm) :
    arrival f (requestOfForm f o w) s = .next (served f (plainReply .denied) s) := by
  cases w with
  | write v =>
    refine (arrival_ready h f .write o [v] rfl).trans (next_served ?_)
    simp [executeOn, fits, ha, writes, requestTo, rawRequest, refuse]
  | exchange e v =>
    refine (arrival_ready h f .exchange o [e, v] rfl).trans (next_served ?_)
    simp [executeOn, fits, ha, writes, refuse]

/-- Settles O18. -/
theorem rightsWrites : Obligations.RightsWrites := by
  intro f row g w v s h hw hp
  have access (hr : row ≠ .utility) : (Obj.right row g).access = .readWrite := by
    cases row with
    | utility => exact absurd rfl hr
    | _ => rfl
  refine ⟨fun hd => ?denied, fun hu hr hv => ?range, fun hu hr r hv => ?stored⟩
  case denied =>
    by_cases hr : row = .utility
    · subst hr
      exact readOnly_denied h f rfl w
    · have hu := hd.resolve_left hr
      exact put_served h hw hp (access hr) nofun rfl (if_neg fun e => hu e.1)
  case range =>
    have unnamed : rightNamed v = none := by
      rw [rightNamed, if_neg (by rintro rfl; simp at hv), if_neg (by rintro rfl; simp at hv),
        if_neg (by rintro rfl; simp at hv)]
    exact put_served h hw hp (access hr) nofun rfl ((if_pos ⟨hu, hr⟩).trans (store_none unnamed _ _))
  case stored =>
    have named : rightNamed v = some r := hv ▸ rightNamed_code r
    refine ⟨_, put_stored h hw hp (access hr) nofun rfl named (if_pos ⟨hu, hr⟩), ?_⟩
    obtain ⟨c, a, l, e⟩ := setRight_shape row g r (begun f.port s)
    have rights : mapRight (answered f (done (setRight row g r (begun f.port s)))).engine =
        mapRight { s.engine with rights := putRight row g r s.engine.rights } :=
      mapRight_of_rights (by rw [e]; rfl)
    refine ⟨?_, fun q x hne => ?_, ?_, ?_, fun hg => ?_, fun hrow hg before hne hc => ?_⟩
    · rw [rights, mapRight_putRight _ hr, if_pos ⟨rfl, rfl⟩]
    · rw [rights, mapRight_putRight _ hr, if_neg fun same => hne (Prod.ext same.1 same.2)]
    · rw [e]
      rfl
    · rw [e]
      rfl
    · rw [setRight_other hr hg]
      exact ⟨rfl, rfl⟩
    · subst hrow hg
      exact setRight_loses (s := begun f.port s) (latching_running h.1) hne before hc

/-! ## CHECK and EXCHANGE (R162, R163) -/

/-- An object that reads as a value is of a value type (R160, R161). -/
theorem access_of_value {s : State} {p : Port} {o : Obj} {w : Word} (h : readObject s p o = .value w) :
    o.access = .readOnly ∨ o.access = .readWrite ∨ o.access = .setValue := by
  cases o with
  | right q g => cases q <;> simp [Obj.access]
  | _ => simp [Obj.access, readObject] at h ⊢

/-- Settles O19. -/
theorem checkAndMismatch : Obligations.CheckAndMismatch := by
  intro f o present e x s h hv
  have read : presentValue (begun f.port s) f.port o = (begun f.port s, .ok present) := by
    simp [presentValue, readObject_begun, hv]
  refine ⟨fun hr => ?check, fun hw ha hc => ?exchange⟩
  case check =>
    refine (arrival_ready h f .check o [e, x] rfl).trans (next_served ?_)
    have fit : fits .check o (requestTo f .check o [e, x]) = true := by
      rcases access_of_value hv with a | a | a <;> simp [fits, a]
    have allows : allowed (begun f.port s).engine f.port .check o = true := by
      rcases hr with hr | hr <;> simp [allowed, writes, hr]
    have acts : checkObject f.port o e x (begun f.port s) = (begun f.port s,
        ⟨if present &&& x = e &&& x then .matched else .mismatch, .values [present]⟩) := by
      rw [checkObject, read]
    simp only [executeOn, fit, allows, writes, Bool.not_true, Bool.false_and, Bool.false_eq_true, if_false]
    exact acts
  case exchange =>
    have access : o.access = .readWrite ∨ o.access = .setValue := by
      rcases ha with ha | rfl
      · exact .inl ha
      · exact .inr rfl
    have latch : o ≠ .latch := by
      rintro rfl
      rcases ha with ha | ha <;> cases ha
    have acts : exchangeObject f.port o e x (begun f.port s) =
        if present = e then writeObject f.port o x (begun f.port s)
        else (begun f.port s, ⟨.mismatch, .values [present]⟩) := by
      unfold exchangeObject
      split
      · exact absurd rfl hc
      · exact absurd rfl latch
      · rw [read]
    refine (arrival_exchange h e x access hw).trans ?_
    rw [acts]
    by_cases he : e = present
    · rw [if_pos he.symm, if_pos he]
      exact (arrival_write h x access hw).symm
    · rw [if_neg fun same => he same.symm, if_neg he]
      exact next_served rfl

/-! ## Cursors (R164) -/

/-- A SELECT is answered by the cursor that its operands name (R164). -/
theorem select_served {s : State} (h : Ready s) {f : Sender} {o : Obj} {table i : Word} {legal : Prop} [Decidable legal]
    {c : Cursor} (ha : o.access = .cursor) (hr : MayRead s f.port o)
    (named : cursorNamed o table i = if legal then some c else none) :
    arrival f (requestTo f .select o [table, i]) s = .next (
      if legal then served f doneReply
        { s with engine := { s.engine with cursors := s.engine.cursors.set f.port c } }
      else served f (plainReply .range) s) := by
  refine (arrival_select h table i ha hr).trans ?_
  split
  · next l => exact next_served (store_some (named.trans (if_pos l)) _ _)
  · next l => exact next_served (store_none (named.trans (if_neg l)) _ _)

/-- The cursor of a table by its code, its copy and an index in range (R164, R175). -/
theorem indexBelow_map (limit : Nat) (i : Word) (g : Nat → Cursor) :
    (indexBelow limit i).map g = if i.toNat < limit then some (g i.toNat) else none :=
  map_ite_some g _ _

/-- Settles O20. -/
theorem cursorSelection : Obligations.CursorSelection := by
  intro f i s h set'
  refine ⟨fun hr copy code hcode => ?schedule, fun hr => ?freeze⟩
  case schedule =>
    have select {table legal c} [Decidable legal] := select_served (table := table) (i := i) (legal := legal) (c := c)
      (o := .scheduleCursor) h rfl hr
    have unnamed {t k : Nat} (ht : t < 256) (hk : k < 16777216) (none : t = 0 ∨ 7 ≤ t ∨ 2 ≤ k) :
        exec (.tableCursorSelect f .schedule (natWord (t + 256 * k)) i) s = .next (served f (plainReply .range) s) :=
      (arrival_select h _ i rfl hr).trans (next_served (store_none (scheduleCursor_unnamed ht hk i none) _ _))
    have small : code < 16777216 := by
      rw [hcode]
      cases copy <;> decide
    refine ⟨select ?_, select ?_, fun t => select ?_, unnamed (by decide) small (.inr (.inl le_rfl)),
      fun t k ht hk none => unnamed ht hk none⟩
    · refine Eq.trans ?_ (indexBelow_map 7 i _)
      rw [hcode]
      cases copy <;> rfl
    · refine Eq.trans ?_ (indexBelow_map 24 i _)
      rw [hcode]
      cases copy <;> rfl
    · refine Eq.trans ?_ (indexBelow_map 8 i _)
      rw [hcode]
      cases copy <;> fin_cases t <;> rfl
  case freeze =>
    refine ⟨select_served (o := .freezeCursor) h rfl hr (indexBelow_map 12 i .freeze), fun t k ht hk => ?_⟩
    exact select_served (o := .freezeCursor) h rfl hr (freezeCursor_named ht hk i)

/-! ## What the stages refuse (R160) -/

/-- A request that an execution refuses at a ready part leaves it as it was. -/
theorem submit_refused {s : State} (h : Ready s) {f : Sender} {r : Request} {c : ReplyCode} (ht : r.tag = f.tag)
    (e : executeRequest f.port r (begun f.port s) = refuse c (begun f.port s)) :
    submit f.port r s = served f (plainReply c) s := by
  rw [submit_ready h, e, ht]
  exact answered_begun f (plainReply c) s

/-- A request that does not fit its object is refused with BAD_REQUEST (R160, stage 3). -/
theorem unfit_refused {s : State} (h : Ready s) (f : Sender) {k : Kind} {o : Obj} {ops : List Word}
    (form : formOk k (requestTo f k o ops) = true) (fit : fits k o (requestTo f k o ops) = false) :
    arrival f (requestTo f k o ops) s = .next (served f (plainReply .badRequest) s) := by
  refine (arrival_ready h f k o ops form).trans (next_served ?_)
  rw [executeOn, fit]
  rfl

/-- Settles O21. -/
theorem registerWriteStages : Obligations.RegisterWriteStages := by
  intro f v x s h
  refine ⟨fun n none => ⟨?_, ?_⟩, fun o ha => ⟨readOnly_denied h f ha (.write v), readOnly_denied h f ha (.exchange v x)⟩,
    fun o => unfit_refused h f (ops := [v, x]) rfl rfl, fun o ha => unfit_refused h f (ops := [v]) rfl ?_, fun hw => ?_⟩
  · refine congrArg _ (submit_refused h rfl ?_)
    simp [executeRequest, formOk, rawRequest, requestOfValueForm, none]
  · refine congrArg _ (submit_refused h rfl ?_)
    simp [executeRequest, formOk, rawRequest, requestOfValueForm, none]
  · rcases ha with ha | ha <;> simp [fits, ha]
  · exact ⟨(arrival_write h (o := .identityUpper) v (.inl rfl) hw).trans (next_served rfl),
      (arrival_write h (o := .identityLower) v (.inl rfl) hw).trans (next_served rfl)⟩

/-- Settles O22. -/
theorem unreadablePortDenied : Obligations.UnreadablePortDenied := by
  refine ⟨fun f k o r s h hnone ht hk ho form fit => submit_refused h ht ?_, fun g x he => ?_⟩
  · have kind : kindNamed r.kind = some k := by rw [hk, kindNamed_code]
    have object : objectNamed r.object.toNat = some o := by rw [ho, objectNamed_field]
    have refused : allowed (begun f.port s).engine f.port k o = false := by simp [allowed, hnone]
    simp only [executeRequest, kind, form, object, executeOn, fit, refused, Bool.not_true, Bool.not_false,
      Bool.false_eq_true, if_false, if_true]
    split <;> rfl
  · rw [effectiveRight]
    split
    · nofun
    · next other => exact fun e => other ⟨rfl, by simpa using he, e⟩

/-! ## Isolation of a port with read rights (R160, R166) -/

/-- What a port without WRITE can change: its read context, its cursor, its latch set with the lines, and the model's
counter of free values (notes/assumptions/3.md). -/
def Isolated (p : Port) (s t : State) : Prop :=
  ∃ (c : Context) (u : Cursor) (l : EventSet) (lines : PerPort Bool) (n : Nat),
    t = { s with
      log := { s.log with contexts := s.log.contexts.set p c }
      engine := { s.engine with
        cursors := s.engine.cursors.set p u, latches := s.engine.latches.set p l, lines := lines }
      freeCount := n }

theorem isolated_refl (p : Port) (s : State) : Isolated p s s :=
  ⟨s.log.contexts.get p, s.engine.cursors.get p, s.engine.latches.get p, s.engine.lines, s.freeCount, by simp⟩

theorem isolated_context (p : Port) (s : State) (c : Context) : Isolated p s (onLog (setContext p c) s) :=
  ⟨c, s.engine.cursors.get p, s.engine.latches.get p, s.engine.lines, s.freeCount, by simp [onLog, setContext]⟩

theorem isolated_readObjects (p : Port) (o : Obj) (k : Nat) (s : State) : Isolated p s (readObjects p o k s).1 := by
  unfold readObjects
  simp only
  split
  · exact ⟨s.log.contexts.get p, s.engine.cursors.get p, 0#15, _, s.freeCount, by simp [clearLatch, setLines]; rfl⟩
  · exact isolated_refl p s

theorem isolated_checkObject (p : Port) (o : Obj) (e m : Word) (s : State) : Isolated p s (checkObject p o e m s).1 := by
  have present : Isolated p s (presentValue s p o).1 := by
    unfold presentValue
    split
    · exact isolated_refl p s
    · exact isolated_refl p s
    all_goals exact ⟨s.log.contexts.get p, s.engine.cursors.get p, s.engine.latches.get p, s.engine.lines,
      s.freeCount + 1, by simp⟩
  unfold checkObject
  split
  · next e =>
    rw [e] at present
    exact present
  · next e =>
    rw [e] at present
    exact present

theorem isolated_selectObject (p : Port) (o : Obj) (t i : Word) (s : State) :
    Isolated p s (selectObject p o t i s).1 := by
  unfold selectObject store
  split
  · next c _ => exact ⟨s.log.contexts.get p, c, s.engine.latches.get p, s.engine.lines, s.freeCount, by simp [done]⟩
  · exact isolated_refl p s

/-- The log context commands move the port's own context (R105). -/
theorem isolated_contextCommand (p : Port) {o : Obj} (h : o.isContextCommand = true) (a b : Word) (s : State) :
    Isolated p s (commandObject p o a b s).1 := by
  cases o with
  | startOldest => exact isolated_context p s _
  | startNewest => exact isolated_context p s _
  | logStop => exact isolated_context p s _
  | startAt =>
    change Isolated p s (store _ _ s).1
    unfold store
    split
    · exact isolated_context p s _
    · exact isolated_refl p s
  | readNext =>
    change Isolated p s (commandReadNext p s).1
    unfold commandReadNext
    simp only
    split
    · split
      · exact isolated_context p s _
      · exact isolated_refl p s
    · exact isolated_refl p s
  | _ => cases h

/-- Settles O23. -/
theorem readOnlyPortIsolated : Obligations.ReadOnlyPortIsolated := by
  intro p r s hw
  change Isolated p s (executeRequest p r s).1
  unfold executeRequest
  split
  · exact isolated_refl p s
  next k _ =>
  split
  · exact isolated_refl p s
  split
  · exact isolated_refl p s
  next o _ =>
  unfold executeOn
  split
  · exact isolated_refl p s
  split
  · exact isolated_refl p s
  split
  · exact isolated_refl p s
  next allows =>
  -- Stage 5 has left the kinds that READ is enough for.
  have no := hw o.group
  cases k with
  | read => exact isolated_readObjects p o _ s
  | check => exact isolated_checkObject p o _ _ s
  | select => exact isolated_selectObject p o _ _ s
  | command =>
    by_cases hc : o.isContextCommand = true
    · exact isolated_contextCommand p hc _ _ s
    · exact absurd allows (by simp [allowed, writes, no, hc])
  | write => exact absurd allows (by simp [allowed, writes, no])
  | modify => exact absurd allows (by simp [allowed, writes, no])
  | exchange => exact absurd allows (by simp [allowed, writes, no])

end Sys2Proof.Machine
end

section
/-! PROOF. The request engine's lines: commands as frames, front ends, queues, frames and their bodies, answers and the
rotation, and the calibration switch (R156 to R159, R168, R175). -/

namespace Sys2Proof.Machine

/-- Settles O24. -/
theorem stepTakesFront : Obligations.StepTakesFront := by
  refine ⟨fun c rest s => rfl, fun s idle => ?_⟩
  unfold step
  rw [idle]

/-! ## A request at a busy engine (R157) -/

theorem isFull_iff (a : Answer) : isFull a = true ↔ ∃ g, a = .full g := by
  cases a with
  | full g => exact ⟨fun _ => ⟨g, rfl⟩, fun _ => rfl⟩
  | executed t r => exact ⟨nofun, nofun⟩

theorem any_isFull_iff (xs : List Answer) : xs.any isFull = true ↔ ∃ g, Answer.full g ∈ xs := by
  rw [List.any_eq_true]
  constructor
  · rintro ⟨a, ha, full⟩
    obtain ⟨g, rfl⟩ := (isFull_iff a).mp full
    exact ⟨g, ha⟩
  · rintro ⟨g, hg⟩
    exact ⟨_, hg, rfl⟩

theorem submit_stopped {s : State} (h : s.store.state ≠ .running) (p : Port) (r : Request) : submit p r s = s := if_neg h

/-- While the engine is SENDING and fewer than three requests wait at a port, its next joins them. -/
theorem submit_waits {s : State} {p q : Port} (hr : s.store.state = .running) (hs : s.engine.state = .sending q)
    (few : (s.engine.queues.get p).length < 3) (r : Request) : submit p r s =
      { setFrontEnd p .hunt s with engine := { (setFrontEnd p .hunt s).engine with
        queues := s.engine.queues.set p (s.engine.queues.get p ++ [r]) } } := by
  have busy : ¬ (s.engine.state = .idle ∧ s.store.state = .running) := by simp [hs]
  rw [submit, if_pos hr, enqueue]
  exact (if_pos few).trans (if_neg busy)

/-- At three the request is answered FULL, once. -/
theorem submit_full {s : State} {p : Port} (hr : s.store.state = .running)
    (three : 3 ≤ (s.engine.queues.get p).length) (r : Request) : submit p r s =
      if (s.engine.outbox.get p).any isFull then setFrontEnd p .hunt s
      else formAnswer p (.full r.tag) (setFrontEnd p .hunt s) := by
  rw [submit, if_pos hr, enqueue]
  exact if_neg (Nat.not_lt.mpr three)

theorem submit_answers {s : State} {p : Port} (hr : s.store.state = .running)
    (three : 3 ≤ (s.engine.queues.get p).length) (none : ∀ g, Answer.full g ∉ s.engine.outbox.get p) (r : Request) :
    submit p r s = formAnswer p (.full r.tag) (setFrontEnd p .hunt s) :=
  (submit_full hr three r).trans (if_neg fun any => (any_isFull_iff _).mp any |>.elim none)

theorem submit_drops {s : State} {p : Port} (hr : s.store.state = .running)
    (three : 3 ≤ (s.engine.queues.get p).length) (unsent : ∃ g, Answer.full g ∈ s.engine.outbox.get p) (r : Request) :
    submit p r s = setFrontEnd p .hunt s :=
  (submit_full hr three r).trans (if_pos ((any_isFull_iff _).mpr unsent))

/-- Settles O25: a command that waits is not touched (`exec_keeps`), a request command is the arrival of one frame. -/
theorem requestsTakenOrQueued : Obligations.RequestsTakenOrQueued := by
  intro c
  refine ⟨fun s => ?_, fun f hf => ?_⟩
  · obtain ⟨t, e, kept⟩ := exec_keeps c s
    exact ⟨t, e, kept.pending⟩
  obtain ⟨r, tag, arrives⟩ := exec_request hf
  refine ⟨r, tag, fun s => ?_⟩
  intro hunting
  rw [arrives, arrival]
  refine ⟨fun stopped => congrArg _ (submit_stopped stopped _ _), fun h => ?_, fun running q sending =>
    ⟨fun few => congrArg _ (submit_waits running sending few r), fun three => ⟨fun none => ?_, fun unsent =>
      congrArg _ (submit_drops running three unsent r)⟩⟩⟩
  · have ⟨running, _, queues⟩ := h
    have executes : Keeps (owedTo f.port) (begun f.port s) (executeRequest f.port r (begun f.port s)).1 :=
      keeps_executeRequest f.port r _ (latching_running running)
    have stays := executes.stays f.port (by simp [owedTo])
    obtain ⟨state, pointer⟩ := stays.serving ⟨rfl, rfl⟩
    obtain ⟨hunts, empty⟩ := stays.quiet ⟨PerPort.get_set_same _ _ _, queues⟩
    refine ⟨_, (executeRequest f.port r (begun f.port s)).2, congrArg _ (submit_ready h f.port r), state, pointer, hunts,
      empty, ?_⟩
    simp only [formAnswer, PerPort.get_set_same, tag]
    exact List.getLast?_concat
  · exact congrArg _ ((submit_answers running three none r).trans (by rw [tag]; rfl))

/-! ## Front ends (R156) -/

/-- Settles O53. -/
theorem frontEnds : Obligations.FrontEnds := by
  intro p s hunting
  refine ⟨fun stopped => ⟨?_, ?_, fun body check => ?_⟩, fun running hunt => ?_, fun running receiving =>
    ⟨?_, fun n h4 h5 h8 h12 => ?_, fun body check length => ⟨fun wrong => ?_, fun right q sending => ?_⟩⟩⟩
  · exact congrArg _ (if_neg fun h => stopped h.1)
  · exact congrArg _ (if_neg fun h => stopped h.1)
  · exact congrArg _ (if_neg fun h => stopped h.1)
  · exact congrArg _ (if_pos ⟨running, hunt⟩)
  · exact congrArg _ (if_pos ⟨running, receiving⟩)
  · exact congrArg _ (if_pos ⟨running, receiving, by simp [bodyLengths, h4, h5, h8, h12]⟩)
  all_goals
    have taken : s.store.state = .running ∧ s.engine.frontEnds.get p = .receiving ∧ body.length ∈ bodyLengths :=
      ⟨running, receiving, by simpa [bodyLengths] using length⟩
  · exact congrArg _ ((if_pos taken).trans (if_neg wrong))
  · have passes : exec (.requestFrame p body check) s = .next (submit p (requestOf body) s) :=
      congrArg _ ((if_pos taken).trans (if_pos right))
    rw [passes]
    exact ⟨fun few => congrArg _ (submit_waits running sending few _), fun three =>
      ⟨fun none => congrArg _ (submit_answers running three none _), fun unsent =>
        congrArg _ (submit_drops running three unsent _)⟩⟩

/-! ## Bytes and frames (R175) -/

theorem numberOf_append (bs : List Byte) (b : Byte) : numberOf (bs ++ [b]) = 256 * numberOf bs + b.toNat := by
  simp [numberOf]

@[simp] theorem length_bytesOf (k n : Nat) : (bytesOf k n).length = k := by
  induction k generalizing n with
  | zero => rfl
  | succ k ih => simp [bytesOf, ih]

theorem numberOf_lt (bs : List Byte) : numberOf bs < 256 ^ bs.length := by
  induction bs using List.reverseRecOn with
  | nil => simp [numberOf]
  | append_singleton bs b ih =>
    rw [numberOf_append, List.length_append, List.length_singleton, pow_succ]
    have := b.isLt
    omega

/-- The bytes of a number spell it again, to the width they have. -/
theorem numberOf_bytesOf {k n : Nat} (h : n < 256 ^ k) : numberOf (bytesOf k n) = n := by
  induction k generalizing n with
  | zero =>
    rw [pow_zero] at h
    rw [Nat.lt_one_iff.mp h]
    rfl
  | succ k ih =>
    rw [bytesOf, numberOf_append, ih (by rw [pow_succ] at h; omega), BitVec.toNat_ofNat]
    omega

/-- Bytes are those of the number they spell. -/
theorem bytesOf_numberOf (bs : List Byte) : bytesOf bs.length (numberOf bs) = bs := by
  induction bs using List.reverseRecOn with
  | nil => rfl
  | append_singleton bs b ih =>
    have high : (256 * numberOf bs + b.toNat) / 256 = numberOf bs := by have := b.isLt; omega
    have low : BitVec.ofNat 8 (256 * numberOf bs + b.toNat) = b := by
      apply BitVec.eq_of_toNat_eq
      have := b.isLt
      rw [BitVec.toNat_ofNat]
      omega
    rw [List.length_append, List.length_singleton, bytesOf, numberOf_append, high, low, ih]

/-- The request that a body spells, by the parts of the body: tag, kind, object, and what follows. -/
theorem requestOf_parts (t k : Byte) {x : List Byte} (hx : x.length = 2) (y : List Byte) :
    requestOf (t :: k :: (x ++ y)) =
      { tag := t, kind := k, object := BitVec.ofNat 16 (numberOf x)
        count := if y.length = 1 then some (y.getD 0 0) else none
        operands :=
          if y.length = 4 then [natWord (numberOf (y.take 4))]
          else if y.length = 8 then [natWord (numberOf (y.take 4)), natWord (numberOf ((y.drop 4).take 4))]
          else [] } := by
  obtain ⟨a, b, rfl⟩ := List.length_eq_two.mp hx
  simp only [requestOf, List.length_cons, List.cons_append, List.nil_append, List.getD_cons_zero, List.getD_cons_succ,
    List.drop_succ_cons, List.drop_zero, List.take_succ_cons, List.take_zero, Nat.reduceEqDiff]

/-- The operands of a request as the bytes behind its object. -/
theorem natWord_numberOf (w : Word) : natWord (numberOf (bytesOf 4 w.toNat)) = w := by
  rw [numberOf_bytesOf (by simpa using w.isLt), natWord, BitVec.ofNat_toNat, BitVec.setWidth_eq]

theorem bytesOf_natWord {bs : List Byte} (h : bs.length = 4) : bytesOf 4 (natWord (numberOf bs)).toNat = bs := by
  have small := numberOf_lt bs
  rw [h] at small
  rw [natWord, BitVec.toNat_ofNat, Nat.mod_eq_of_lt (by omega)]
  exact h ▸ bytesOf_numberOf bs

/-- What follows the object in the body of a request (Table 11-4). -/
def tailOf (r : Request) : List Byte :=
  match r.count with
  | some c => [c]
  | none => r.operands.flatMap fun w => bytesOf 4 w.toNat

theorem bodyOf_eq (r : Request) : bodyOf r = r.tag :: r.kind :: (bytesOf 2 r.object.toNat ++ tailOf r) := rfl

/-- The body of a request that a frame can carry spells it. -/
theorem requestOf_bodyOf {r : Request} (h : r.count ≠ none ∧ r.operands = [] ∨ r.count = none ∧ r.operands.length ≤ 2) :
    (bodyOf r).length ∈ bodyLengths ∧ requestOf (bodyOf r) = r := by
  obtain ⟨tag, kind, object, count, operands⟩ := r
  have named : BitVec.ofNat 16 (numberOf (bytesOf 2 object.toNat)) = object := by
    rw [numberOf_bytesOf (by simpa using object.isLt), BitVec.ofNat_toNat, BitVec.setWidth_eq]
  rw [bodyOf_eq, requestOf_parts _ _ (length_bytesOf _ _), named]
  rcases h with ⟨counted, plain⟩ | ⟨uncounted, few⟩
  · obtain ⟨c, rfl⟩ := Option.ne_none_iff_exists'.mp counted
    obtain rfl : operands = [] := plain
    exact ⟨by simp [tailOf, bodyLengths], rfl⟩
  · obtain rfl : count = none := uncounted
    match operands, few with
    | [], _ => exact ⟨by simp [tailOf, bodyLengths], rfl⟩
    | [a], _ =>
      refine ⟨by simp [tailOf, bodyLengths], ?_⟩
      simp [tailOf, List.take_of_length_le, natWord_numberOf]
    | [a, b], _ =>
      refine ⟨by simp [tailOf, bodyLengths], ?_⟩
      simp [tailOf, List.take_left', List.drop_left', List.take_of_length_le, natWord_numberOf]

/-- A body of an allowed length is that of the request it spells. -/
theorem bodyOf_requestOf {body : List Byte} (h : body.length ∈ bodyLengths) : bodyOf (requestOf body) = body := by
  match body, h with
  | t :: k :: a :: b :: y, h =>
    have spelled : requestOf (t :: k :: a :: b :: y) = _ := requestOf_parts t k (x := [a, b]) rfl y
    have object : bytesOf 2 (BitVec.ofNat 16 (numberOf [a, b])).toNat = [a, b] := by
      have small := numberOf_lt [a, b]
      rw [BitVec.toNat_ofNat, Nat.mod_eq_of_lt (by simpa using small)]
      exact bytesOf_numberOf [a, b]
    have length : y.length = 0 ∨ y.length = 1 ∨ y.length = 4 ∨ y.length = 8 := by
      simpa [bodyLengths] using h
    rw [bodyOf_eq, spelled]
    simp only [object, tailOf]
    rcases length with l | l | l | l
    · simp [List.length_eq_zero_iff.mp l]
    · obtain ⟨c, rfl⟩ := List.length_eq_one_iff.mp l
      rfl
    · simp [l, List.take_of_length_le l.le, bytesOf_natWord l]
    · have first : (y.take 4).length = 4 := by simp [l]
      have second : ((y.drop 4).take 4).length = 4 := by simp [l]
      have rest : (y.drop 4).take 4 = y.drop 4 := List.take_of_length_le (by simp [l])
      simp [l, bytesOf_natWord first, rest, bytesOf_natWord (rest ▸ second)]

/-- Settles O54. -/
theorem frameRoundTrip : Obligations.FrameRoundTrip := by
  refine ⟨fun r h => requestOf_bodyOf h, fun body h => bodyOf_requestOf h, fun k k' h => ?_, kindNamed_code⟩
  have named := congrArg kindNamed h
  rw [kindNamed_code, kindNamed_code] at named
  exact Option.some.inj named

/-! ## Answers and the rotation (R158, R159) -/

/-- Settles O55. -/
theorem answersAndRotation : Obligations.AnswersAndRotation := by
  intro p s
  refine ⟨fun g rest head => ?full, fun g r rest sending head => ?executed⟩
  case full =>
    change execFullAnswerSent p s = _
    unfold execFullAnswerSent
    rw [head]
    rfl
  case executed =>
    intro sent
    have leaves : exec .answerSent s = .next (arbitrate sent) := by
      change execAnswerSent s = _
      unfold execAnswerSent
      simp only [sending, head]
      rfl
    rw [leaves]
    refine ⟨fun free => ?idle, fun running q x xs hq first => ?next⟩
    case idle =>
      refine congrArg _ ?_
      unfold arbitrate
      split
      · next h =>
        have none : nextPort sent.engine = none := by
          have empty : sent.engine.queues = .all [] := free.resolve_right (not_not.mpr h.2)
          simp [nextPort, empty]
        rw [none]
      · rfl
    case next =>
      have found : nextPort sent.engine = some q := by
        have inRotation : q ∈ rotationAfter s.engine.pointer := by cases s.engine.pointer <;> cases q <;> decide
        obtain ⟨before, after, e⟩ := List.append_of_mem inRotation
        have waits : s.engine.queues.get q ≠ [] := by rw [hq]; nofun
        refine List.find?_eq_some_iff_append.mpr ⟨?_, before, after, e, fun y hy => ?_⟩
        · change (!(s.engine.queues.get q).isEmpty) = true
          rw [hq]
          rfl
        · change (!(!(s.engine.queues.get y).isEmpty)) = true
          rw [first before after e y hy]
          rfl
      have serves : arbitrate sent = serve q x xs sent := arbitrate_serves rfl running found hq
      have executes : Keeps (owedTo q) (beginServing q xs sent) (executeRequest q x (beginServing q xs sent)).1 :=
        keeps_executeRequest q x _ (latching_running running)
      obtain ⟨state, pointer⟩ := (executes.stays q (by simp [owedTo])).serving ⟨rfl, rfl⟩
      refine ⟨_, congrArg _ serves, pointer, state, (executeRequest q x (beginServing q xs sent)).2, ?_⟩
      simp only [serve, formAnswer, PerPort.get_set_same]
      exact List.getLast?_concat

end Sys2Proof.Machine
end

section
/-! PROOF. The calibration switch (R168), and the state after reset. -/

namespace Sys2Proof.Machine

/-! ## CALEN (R168) -/

/-- A latched event stays latched when another is raised for one port. -/
theorem raiseFor_latches_mono (k : EventKind) (q : Port) (s : State) (p : Port) (x : EventSet)
    (h : s.engine.latches.get p &&& x = x) : (raiseFor k q s).engine.latches.get p &&& x = x := by
  by_cases e : p = q
  · subst e
    unfold raiseFor
    split
    · change ((s.engine.latches.set p (s.engine.latches.get p ||| eventSet k)).get p) &&& x = x
      rw [PerPort.get_set_same]
      ext i hi
      have member := congrArg (fun v : EventSet => v[i]) h
      simp only [BitVec.getElem_and, BitVec.getElem_or] at member ⊢
      revert member
      cases x[i] <;> simp +contextual
    · exact h
  · rwa [raiseFor_latches_other e]

theorem Latched.raiseFor {k : EventKind} {s : State} (h : Latched k s) (j : EventKind) (q : Port) :
    Latched k (raiseFor j q s) := fun p => raiseFor_latches_mono j q s p _ (h p)

theorem Latched.endTest {k : EventKind} {s : State} (h : Latched k s) (c : ExitCause) : Latched k (endTest c s) := by
  unfold Machine.endTest
  split
  · exact fun p => raise_latches_mono .testModeChange _ p _ (h p)
  · exact h

theorem Latched.loseClaim {k : EventKind} {s : State} (h : Latched k s) (p : Port) : Latched k (loseClaim p s) := by
  unfold Machine.loseClaim
  split
  · exact fun q => raiseFor_latches_mono .claimLost p _ q _ (h q)
  · exact h

theorem loseClaim_held {p : Port} {s : State} (h : s.tariff.claim = some p) (hs : latching s.store.state = true) :
    (loseClaim p s).tariff.claim = none ∧
      (loseClaim p s).engine.latches.get p &&& eventSet .claimLost = eventSet .claimLost := by
  rw [loseClaim, if_pos h]
  exact ⟨by rw [raiseFor_tariff], raiseFor_latched _ _ hs⟩

theorem loseClaim_pulse (p : Port) (s : State) : (loseClaim p s).pulse = s.pulse := by
  obtain ⟨c, a, l, e⟩ := loseClaim_shape p s
  rw [e]

/-- What ends TEST: the pulse unit in NORMAL with the cause, or as it was (R140). -/
theorem endTest_testing {s : State} (h : s.pulse.test = true) (c : ExitCause) :
    endTest c s = raise .testModeChange { s with pulse := { s.pulse with
      test := false, pendingCount := 0, timer := 0, lastExit := c } } := if_pos h

theorem endTest_normal {s : State} (h : s.pulse.test = false) (c : ExitCause) : endTest c s = s :=
  if_neg (by rw [h]; decide)

theorem endTest_tariff (c : ExitCause) (s : State) : (endTest c s).tariff = s.tariff := by
  obtain ⟨u, a, l, e⟩ := endTest_shape c s
  rw [e]

theorem endTest_store (c : ExitCause) (s : State) : (endTest c s).store = s.store := by
  obtain ⟨u, a, l, e⟩ := endTest_shape c s
  rw [e]

/-- An opening of the enable, by its two parts: TEST ends, then a service claim under map rights (R168). -/
theorem openEnable_shape (s : State) : ∃ v a l c, openEnable s = { s with
    pulse := v, tariff := { s.tariff with claim := c }, engine := { s.engine with latches := a, lines := l } } := by
  obtain ⟨v, a, l, e⟩ := endTest_shape .switch s
  unfold openEnable
  simp only [e]
  split
  · obtain ⟨c, a, l, e⟩ := loseClaim_shape .service
      { s with pulse := v, engine := { s.engine with latches := a, lines := l } }
    exact ⟨v, a, l, c, e⟩
  · exact ⟨v, a, l, s.tariff.claim, rfl⟩

theorem Latched.openEnable {k : EventKind} {s : State} (h : Latched k s) : Latched k (openEnable s) := by
  unfold Machine.openEnable
  simp only
  split
  · exact (h.endTest _).loseClaim _
  · exact h.endTest _

theorem openEnable_pulse (s : State) : (openEnable s).pulse = (endTest .switch s).pulse := by
  unfold openEnable
  simp only
  split
  · exact loseClaim_pulse _ _
  · rfl

theorem openEnable_unclaimed {s : State} (h : s.tariff.claim ≠ some .service) : (openEnable s).tariff = s.tariff := by
  have keeps : loseClaim .service (endTest .switch s) = endTest .switch s := if_neg (by rwa [endTest_tariff])
  rw [openEnable, keeps, ite_self, endTest_tariff]

theorem openEnable_claimed {s : State} (hs : latching s.store.state = true) (h : s.tariff.claim = some .service)
    (hm : mapRight s.engine .service .schedule = .write) :
    (openEnable s).tariff.claim = none ∧
      (openEnable s).engine.latches.get .service &&& eventSet .claimLost = eventSet .claimLost := by
  rw [openEnable, if_pos hm]
  exact loseClaim_held (by rwa [endTest_tariff]) (by rwa [endTest_store])

/-- The new level and enable state at a change of CALEN, with CAL_SWITCH raised (R168). -/
def switched (closed : Bool) (s : State) : State :=
  raise .calSwitch { s with engine := { s.engine with calen := closed, enable := closed } }

theorem changeCalen_switched {c : Bool} {s : State} (hc : c ≠ s.engine.calen)
    (hs : s.store.state = .running ∨ s.store.state = .saving) :
    changeCalen c s = if c then switched c s else openEnable (switched c s) := by
  rw [changeCalen, if_neg hc, if_pos hs]
  rfl

/-- Settles O52. -/
theorem calenChange : Obligations.CalenChange := by
  intro s
  refine ⟨congrArg _ (if_pos rfl), fun c hc => ⟨fun hr hv => ?other, fun hs => ?live⟩⟩
  case other =>
    exact congrArg _ ((if_neg hc).trans (if_neg fun h => h.elim hr hv))
  case live =>
    have latches : latching s.store.state = true := by rcases hs with h | h <;> rw [h] <;> rfl
    have raised : Latched .calSwitch (switched c s) := latched_raise _ latches
    have pulse : (switched c s).pulse = s.pulse := raise_pulse _ _
    have tariff : (switched c s).tariff = s.tariff := raise_tariff _ _
    refine ⟨_, rfl, ?_⟩
    rw [changeCalen_switched hc hs]
    cases c with
    | true =>
      refine ⟨raise_engine_calen _ _, raise_engine_enable _ _, raised, ?_, ?_, fun _ => ⟨tariff, pulse⟩, nofun, nofun,
        nofun, fun _ => tariff⟩
      · rw [if_pos rfl, tariff]
      · rw [if_pos rfl, tariff]
    | false =>
      rw [if_neg nofun]
      obtain ⟨v, a, l, claim, e⟩ := openEnable_shape (switched false s)
      refine ⟨?_, ?_, raised.openEnable, ?_, ?_, nofun, fun _ ht => ?_, fun _ ht => ?_, fun _ hcl hm => ?_, fun hcl => ?_⟩
      · rw [e]
        exact raise_engine_calen _ _
      · rw [e]
        exact raise_engine_enable _ _
      · rw [e]
        change (switched false s).tariff.pending = _
        rw [tariff]
      · rw [e]
        change (switched false s).tariff.pendingState = _
        rw [tariff]
      · have testing : (switched false s).pulse.test = true := by rw [pulse, ht]
        have live : latching (switched false s).store.state = true := by rwa [switched, raise_store]
        constructor
        · have ended : Latched .testModeChange (endTest .switch (switched false s)) := by
            rw [endTest_testing testing]
            exact latched_raise _ live
          unfold openEnable
          simp only
          split
          · exact ended.loseClaim _
          · exact ended
        · rw [openEnable_pulse, endTest_testing testing, raise_pulse, pulse]
      · rw [openEnable_pulse, endTest_normal (by rw [pulse, ht]), pulse]
      · refine openEnable_claimed (by rwa [switched, raise_store]) (by rw [tariff, hcl]) ?_
        rw [← hm]
        exact congrFun (congrFun (mapRight_of_rights (raise_engine_rights _ _)) _) _
      · rw [openEnable_unclaimed (by rwa [tariff]), tariff]

/-! ## Reset -/

/-- Settles O26. -/
theorem resetCold : Obligations.ResetCold := by
  unfold Obligations.ResetCold
  intro s
  refine ⟨rfl, rfl, rfl, rfl, rfl, rfl, rfl, fun φ => ?phase, rfl, rfl, rfl, rfl, rfl, rfl, rfl, rfl, rfl, rfl, rfl,
    rfl, rfl, rfl, rfl, rfl, rfl, rfl, rfl, rfl, rfl, rfl, rfl, rfl, fun x hx => ?schedule, rfl, fun b => ?registers,
    rfl, rfl, rfl, rfl, rfl, rfl, rfl, rfl, rfl, rfl, rfl, rfl, rfl, fun p => ?contexts, rfl, rfl, rfl, rfl, rfl, rfl,
    rfl, rfl, rfl, rfl, rfl, rfl, rfl, rfl, rfl, rfl, rfl, rfl, rfl, rfl, rfl, rfl, rfl, rfl, rfl, rfl, rfl, fun p =>
    ?ports, fun p => ?lines, rfl, Nat.zero_le _, fun claimed => absurd rfl claimed, ?engine, ?counts,
    accumulatorLaw_reset, ?log, ?settings⟩
  case phase => cases φ <;> exact ⟨rfl, rfl, rfl, rfl, rfl, rfl, rfl, rfl, rfl, rfl, rfl, rfl, rfl, rfl, rfl, rfl, rfl, rfl,
    rfl, rfl⟩
  case schedule =>
    have cold : x = Schedule.cold := hx.elim id id
    subst cold
    exact ⟨rfl, rfl, by decide, by decide⟩
  case registers => revert b; decide
  case contexts => cases p <;> rfl
  case ports => cases p <;> exact ⟨rfl, rfl, rfl, rfl, rfl, rfl⟩
  case lines =>
    have inactive : attention .running (eventSet .restored) 0#15 = false := by decide
    cases p <;> exact inactive.symm
  case engine => exact ⟨fun p => by cases p <;> exact ⟨Nat.zero_le _, Nat.zero_le _, rfl⟩, fun _ => rfl⟩
  case counts => exact ⟨by decide, by decide, Nat.zero_lt_succ _, Nat.zero_lt_succ _, by decide⟩
  case log => exact ⟨recordsLawful_nil le_rfl, recordsLawful_nil le_rfl, nofun⟩
  case settings =>
    have links : State.reset.assembly.legal := fun φ => by cases φ <;> exact ⟨by decide, by decide⟩
    have calibration (φ) : (State.reset.metrology.calibration.get φ).legal := by
      cases φ <;> exact ⟨by decide, by decide, by decide, by decide⟩
    have envelope : State.reset.envelope.legal :=
      ⟨by simp [Limit.legal, State.reset, Envelope.cold], trivial, by decide, by decide, by decide⟩
    exact (settingsLegal_iff _).mpr ⟨links, ⟨calibration, by decide⟩, ⟨by unfold lengthLegal; decide, nofun⟩, by decide,
      envelope, by decide, by decide, by decide, by decide⟩

end Sys2Proof.Machine
end

section
/-! PROOF. Strobe issue, set closing, the second boundary, and the expiries that fall at a strobe (R1, R2, R9, R14 to R16,
R60, R139). -/

namespace Sys2Proof.Machine

/-! ## Missing runs (R9) -/

/-- A link after a set has closed: its missing run, or DOWN when that reaches the limit (R9). -/
def closedLink (o : OpenSet) (φ : Phase) (l : Link) : Link :=
  if l.state = .locked then
    if holdsSample (o.slots.get φ) then { l with missingRun := 0 }
    else if missingRunLimit ≤ l.missingRun + 1 then enterState { l with missingRun := l.missingRun + 1 } .down
    else { l with missingRun := l.missingRun + 1 }
  else l

/-- A link whose missing run reaches the limit at the closing of a set. -/
def goesDown (o : OpenSet) (φ : Phase) (l : Link) : Prop :=
  l.state = .locked ∧ holdsSample (o.slots.get φ) = false ∧ missingRunLimit ≤ l.missingRun + 1

theorem closedLink_unlocked {o : OpenSet} {φ : Phase} {l : Link} (h : l.state ≠ .locked) : closedLink o φ l = l := if_neg h

theorem closedLink_down {o : OpenSet} {φ : Phase} {l : Link} (h : goesDown o φ l) :
    closedLink o φ l = { l with state := .down, missingRun := 0, countdown := 0 } := by
  obtain ⟨locked, empty, due⟩ := h
  simp [closedLink, locked, empty, due, enterState]

@[simp] theorem closedLink_control (o : OpenSet) (φ : Phase) (l : Link) : (closedLink o φ l).control = l.control := by
  have down (m : Link) : (enterState m .down).control = m.control := by
    simp only [enterState]
    split <;> rfl
  unfold closedLink
  repeat' split
  all_goals simp [down]

theorem closedLink_disabled (o : OpenSet) (φ : Phase) (l : Link) :
    (closedLink o φ l).state = .disabled ↔ l.state = .disabled := by
  unfold closedLink
  split
  · next locked =>
    split
    · exact Iff.rfl
    · split
      · simp [locked]
      · exact Iff.rfl
  · exact Iff.rfl

@[simp] theorem map_number_emptySlots (φ : Phase) (sets : List OpenSet) :
    (emptySlots φ sets).map OpenSet.number = sets.map OpenSet.number := by simp [emptySlots]

theorem changeLink_numbers (φ : Phase) (target : LinkState) (s : State) :
    (changeLink φ target s).assembly.openSets.map OpenSet.number = s.assembly.openSets.map OpenSet.number := by
  unfold changeLink
  simp only
  split
  · rfl
  · rw [raise_assembly]
    split
    · exact map_number_emptySlots φ _
    · rfl

/-- The missing-run step of a link: the link by its own rule, the numbers of the open sets as they were (R9). -/
theorem stepMissingRun_step (o : OpenSet) (φ : Phase) (s : State) :
    (stepMissingRun o φ s).assembly.links = s.assembly.links.set φ (closedLink o φ (s.assembly.links.get φ)) ∧
      (stepMissingRun o φ s).assembly.openSets.map OpenSet.number = s.assembly.openSets.map OpenSet.number := by
  unfold stepMissingRun closedLink
  simp only
  split
  · next locked =>
    split
    · exact ⟨rfl, rfl⟩
    · split
      · refine ⟨?_, changeLink_numbers _ _ _⟩
        rw [changeLink_links (by simp [setLink, locked])]
        simp only [setLink, PerPhase.get_set_same]
        cases φ <;> rfl
      · exact ⟨rfl, rfl⟩
  · exact ⟨(PerPhase.set_get _ _).symm, rfl⟩

theorem stepMissingRun_latched {o : OpenSet} {φ : Phase} {s : State} (hs : latching s.store.state = true)
    (h : goesDown o φ (s.assembly.links.get φ)) : Latched .linkChange (stepMissingRun o φ s) := by
  obtain ⟨locked, empty, due⟩ := h
  have e : stepMissingRun o φ s = changeLink φ .down
      (setLink φ { s.assembly.links.get φ with missingRun := (s.assembly.links.get φ).missingRun + 1 } s) := by
    simp [stepMissingRun, locked, empty, due]
  rw [e]
  exact changeLink_latched (s := setLink φ _ s) hs (by simp [setLink, locked])

theorem Latched.stepMissingRun {k : EventKind} {s : State} (h : Latched k s) (o : OpenSet) (φ : Phase) :
    Latched k (stepMissingRun o φ s) := by
  unfold Machine.stepMissingRun
  simp only
  split
  · split
    · exact h
    · split
      · exact Latched.changeLink (s := setLink φ _ s) h φ .down
      · exact h
  · exact h

/-- The missing-run steps of the three links (R14). -/
def missingRuns (o : OpenSet) (s : State) : State :=
  stepMissingRun o .p3 (stepMissingRun o .p2 (stepMissingRun o .p1 s))

theorem closeSet_eq (o : OpenSet) (s : State) : closeSet o s = countClosing (missingRuns o (closeQuality o s)) := rfl

/-- The missing-run steps touch the links, the open sets, latches and lines; each link follows its own rule. -/
theorem missingRuns_shape (o : OpenSet) (s : State) : ∃ l x a n, missingRuns o s = { s with
      assembly := { s.assembly with links := l, openSets := x }
      engine := { s.engine with latches := a, lines := n } } ∧
    (∀ φ, l.get φ = closedLink o φ (s.assembly.links.get φ)) ∧
    x.map OpenSet.number = s.assembly.openSets.map OpenSet.number := by
  obtain ⟨l1, x1, a1, n1, e1⟩ := stepMissingRun_shape o .p1 s
  obtain ⟨links1, numbers1⟩ := stepMissingRun_step o .p1 s
  obtain ⟨l2, x2, a2, n2, e2⟩ := stepMissingRun_shape o .p2 (stepMissingRun o .p1 s)
  obtain ⟨links2, numbers2⟩ := stepMissingRun_step o .p2 (stepMissingRun o .p1 s)
  obtain ⟨l3, x3, a3, n3, e3⟩ := stepMissingRun_shape o .p3 (stepMissingRun o .p2 (stepMissingRun o .p1 s))
  obtain ⟨links3, numbers3⟩ := stepMissingRun_step o .p3 (stepMissingRun o .p2 (stepMissingRun o .p1 s))
  have e : missingRuns o s = { s with
      assembly := { s.assembly with
        links := (missingRuns o s).assembly.links, openSets := (missingRuns o s).assembly.openSets }
      engine := { s.engine with latches := a3, lines := n3 } } := by
    change stepMissingRun o .p3 _ = _
    unfold missingRuns
    rw [e3, e2, e1]
  refine ⟨_, _, a3, n3, e, fun φ => ?_, ?_⟩
  · change (stepMissingRun o .p3 _).assembly.links.get φ = _
    rw [links3, links2, links1]
    cases φ <;> rfl
  · exact numbers3.trans (numbers2.trans numbers1)

theorem Latched.missingRuns {k : EventKind} {s : State} (h : Latched k s) (o : OpenSet) : Latched k (missingRuns o s) :=
  ((h.stepMissingRun o .p1).stepMissingRun o .p2).stepMissingRun o .p3

theorem stepMissingRun_store (o : OpenSet) (φ : Phase) (s : State) : (stepMissingRun o φ s).store = s.store := by
  obtain ⟨l, x, a, n, e⟩ := stepMissingRun_shape o φ s
  rw [e]

theorem stepMissingRun_link_other {φ ψ : Phase} (hn : ψ ≠ φ) (o : OpenSet) (s : State) :
    (stepMissingRun o φ s).assembly.links.get ψ = s.assembly.links.get ψ := by
  rw [(stepMissingRun_step o φ s).1, PerPhase.get_set_ne _ _ hn]

/-- A link that the closing takes to DOWN raises LINK_CHANGE (R4, R9). -/
theorem missingRuns_latched {o : OpenSet} {φ : Phase} {s : State} (hs : latching s.store.state = true)
    (h : goesDown o φ (s.assembly.links.get φ)) : Latched .linkChange (missingRuns o s) := by
  cases φ with
  | p1 => exact ((stepMissingRun_latched hs h).stepMissingRun o .p2).stepMissingRun o .p3
  | p2 =>
    refine (stepMissingRun_latched (by rwa [stepMissingRun_store]) ?_).stepMissingRun o .p3
    rwa [stepMissingRun_link_other (by decide)]
  | p3 =>
    refine stepMissingRun_latched (by rwa [stepMissingRun_store, stepMissingRun_store]) ?_
    rwa [stepMissingRun_link_other (by decide), stepMissingRun_link_other (by decide)]

/-! ## The closing of a set (R14 to R16, R60) -/

/-- The closed set that goes to the metrology unit (R14). -/
def closedSet (s : State) (o : OpenSet) : ClosedSet :=
  ⟨o.number, .of fun φ => (phaseClosing s o φ).disposition, .of fun φ => (phaseClosing s o φ).quality⟩

/-- The quality part of a closing, by what it changes (R14). -/
theorem closeQuality_eq (o : OpenSet) (s : State) : ∃ a n, closeQuality o s = { s with
    assembly := { s.assembly with
      quality := .of fun φ => (phaseClosing s o φ).quality
      substitutionRun := .of fun φ => (phaseClosing s o φ).run
      openSets := s.assembly.openSets.filter (fun x => x.number != o.number) }
    wires := { s.wires with sets := s.wires.sets ++ [closedSet s o] }
    engine := { s.engine with latches := a, lines := n } } := by
  unfold closeQuality
  simp only
  obtain ⟨a, n, e⟩ := raiseIf_shape (phases.any (becomesLost s o)) .phaseLost { s with
    assembly := { s.assembly with
      quality := .of fun φ => (phaseClosing s o φ).quality
      substitutionRun := .of fun φ => (phaseClosing s o φ).run
      openSets := s.assembly.openSets.filter (fun x => x.number != o.number) }
    wires := { s.wires with sets := s.wires.sets ++ [closedSet s o] } }
  obtain ⟨a', n', e'⟩ := raiseIf_shape (phases.any (becomesRestored s o)) .phaseRestored { s with
    assembly := { s.assembly with
      quality := .of fun φ => (phaseClosing s o φ).quality
      substitutionRun := .of fun φ => (phaseClosing s o φ).run
      openSets := s.assembly.openSets.filter (fun x => x.number != o.number) }
    wires := { s.wires with sets := s.wires.sets ++ [closedSet s o] }
    engine := { s.engine with latches := a, lines := n } }
  exact ⟨a', n', (congrArg (raiseIf _ .phaseRestored) e).trans e'⟩

theorem any_phases {f : Phase → Bool} {φ : Phase} (h : f φ = true) : phases.any f = true :=
  List.any_eq_true.mpr ⟨φ, by cases φ <;> decide, h⟩

/-- A phase that becomes LOST at a closing raises PHASE_LOST (R16). -/
theorem closeQuality_lost {o : OpenSet} {φ : Phase} {s : State} (hs : latching s.store.state = true)
    (h : becomesLost s o φ = true) : Latched .phaseLost (closeQuality o s) := by
  unfold closeQuality
  simp only
  refine Latched.raiseIf ?_ _ _
  rw [any_phases h]
  exact latched_raise _ hs

/-- A LOST phase that becomes GOOD at a closing raises PHASE_RESTORED (R15). -/
theorem closeQuality_restored {o : OpenSet} {φ : Phase} {s : State} (hs : latching s.store.state = true)
    (h : becomesRestored s o φ = true) : Latched .phaseRestored (closeQuality o s) := by
  unfold closeQuality
  simp only
  rw [any_phases h]
  exact latched_raise _ (by rwa [raiseIf_store])

theorem Latched.countClosing {k : EventKind} {s : State} (h : Latched k s) : Latched k (countClosing s) := by
  unfold Machine.countClosing
  split
  · unfold takeBoundary
    simp only
    unfold Machine.raiseIf
    split
    · exact fun p => raise_latches_mono .timeStepped _ p _ (h p)
    · exact h
  · exact h

/-- A counted closing that reaches the length of the second (R60). -/
theorem countClosing_due {s : State} (h : boundaryDue s.timeBase = true) : ∃ a n, countClosing s = { s with
    timeBase := afterBoundary s.timeBase
    wires := { s.wires with notices := s.wires.notices ++ [noticeOf s.timeBase] }
    store := { s.store with backup := ⟨(afterBoundary s.timeBase).start, (afterBoundary s.timeBase).set, true⟩ }
    engine := { s.engine with latches := a, lines := n } } := by
  rw [countClosing, if_pos h]
  exact raiseIf_shape _ _ _

/-- A counted closing before the last of the second (R60). -/
theorem countClosing_counts {s : State} (h : boundaryDue s.timeBase = false) :
    countClosing s = { s with timeBase := { s.timeBase with counted := s.timeBase.counted + 1 } } :=
  if_neg (by rw [h]; decide)

/-- What a strobe issue does to one part of the state, the set that it closes being given: every block behind the time
base is left as it was (R1, R14, R60). -/
theorem closeSet_parts (o : OpenSet) (s : State) : ∃ l x a n b w c, closeSet o s = { s with
      assembly := { s.assembly with
        links := l, openSets := x
        quality := .of fun φ => (phaseClosing s o φ).quality
        substitutionRun := .of fun φ => (phaseClosing s o φ).run }
      timeBase := b
      store := { s.store with backup := c }
      wires := { s.wires with sets := s.wires.sets ++ [closedSet s o], notices := w }
      engine := { s.engine with latches := a, lines := n } } ∧
    (∀ φ, l.get φ = closedLink o φ (s.assembly.links.get φ)) ∧
    x.map OpenSet.number = (s.assembly.openSets.map OpenSet.number).filter (fun k => k != o.number) := by
  obtain ⟨a1, n1, e1⟩ := closeQuality_eq o s
  obtain ⟨l, x, a2, n2, e2, links, numbers⟩ := missingRuns_shape o (closeQuality o s)
  obtain ⟨b, w, c, a3, n3, e3⟩ := countClosing_shape (missingRuns o (closeQuality o s))
  rw [closeSet_eq]
  refine ⟨l, x, a3, n3, b, w, c, ?_, fun φ => ?_, ?_⟩
  · rw [e3, e2, e1]
  · rw [links φ, e1]
  · rw [numbers, e1, List.filter_map]
    rfl

/-- The time base, the notices and the store after a closing, by whether it fills the second (R60). -/
theorem closeSet_due {o : OpenSet} {s : State} (h : boundaryDue s.timeBase = true) :
    (closeSet o s).timeBase = afterBoundary s.timeBase ∧
      (closeSet o s).wires.notices = s.wires.notices ++ [noticeOf s.timeBase] ∧
      (closeSet o s).store = { s.store with
        backup := ⟨(afterBoundary s.timeBase).start, (afterBoundary s.timeBase).set, true⟩ } := by
  obtain ⟨a1, n1, e1⟩ := closeQuality_eq o s
  obtain ⟨l, x, a2, n2, e2, -, -⟩ := missingRuns_shape o (closeQuality o s)
  have same : (missingRuns o (closeQuality o s)).timeBase = s.timeBase := by rw [e2, e1]
  obtain ⟨a3, n3, e3⟩ := countClosing_due (s := missingRuns o (closeQuality o s)) (by rwa [same])
  rw [closeSet_eq, e3]
  refine ⟨by rw [same], ?_, ?_⟩
  · rw [same, e2, e1]
  · rw [same, e2, e1]

theorem closeSet_counts {o : OpenSet} {s : State} (h : boundaryDue s.timeBase = false) :
    (closeSet o s).timeBase = { s.timeBase with counted := s.timeBase.counted + 1 } ∧
      (closeSet o s).wires.notices = s.wires.notices ∧ (closeSet o s).store = s.store := by
  obtain ⟨a1, n1, e1⟩ := closeQuality_eq o s
  obtain ⟨l, x, a2, n2, e2, -, -⟩ := missingRuns_shape o (closeQuality o s)
  have same : (missingRuns o (closeQuality o s)).timeBase = s.timeBase := by rw [e2, e1]
  rw [closeSet_eq, countClosing_counts (by rwa [same])]
  refine ⟨by rw [same], ?_, ?_⟩
  · rw [e2, e1]
  · rw [e2, e1]

/-- A step that comes into force at the boundary raises TIME_STEPPED (R64). -/
theorem closeSet_stepped {o : OpenSet} {s : State} (hs : latching s.store.state = true)
    (h : boundaryDue s.timeBase = true) (step : s.timeBase.step.isSome = true) :
    Latched .timeStepped (closeSet o s) := by
  obtain ⟨a1, n1, e1⟩ := closeQuality_eq o s
  obtain ⟨l, x, a2, n2, e2, -, -⟩ := missingRuns_shape o (closeQuality o s)
  have time : (missingRuns o (closeQuality o s)).timeBase = s.timeBase := by rw [e2, e1]
  have store : (missingRuns o (closeQuality o s)).store = s.store := by rw [e2, e1]
  rw [closeSet_eq, countClosing, if_pos (by rwa [time]), takeBoundary, raiseIf, if_pos (by rwa [time])]
  exact latched_raise _ (by rw [store]; exact hs)

/-! ## The strobe issue (R1, R2) -/

theorem Latched.tickTestTimer {k : EventKind} {s : State} (h : Latched k s) : Latched k (tickTestTimer s) := by
  unfold Machine.tickTestTimer
  simp only
  split
  · split
    · exact Latched.endTest (s := { s with pulse := { s.pulse with timer := s.pulse.timer - 1 } }) h .timer
    · exact h
  · exact h

/-- The test timer's strobe touches the pulse unit, latches and lines alone (R139). -/
theorem tickTestTimer_shape (s : State) : ∃ u a n, tickTestTimer s = { s with
    pulse := u, engine := { s.engine with latches := a, lines := n } } ∧ (s.pulse.test = false → u = s.pulse) := by
  unfold tickTestTimer
  simp only
  split
  · next testing =>
    have no : s.pulse.test = false → False := by rw [testing]; nofun
    split
    · obtain ⟨u, a, n, e⟩ := endTest_shape .timer { s with pulse := { s.pulse with timer := s.pulse.timer - 1 } }
      exact ⟨u, a, n, e, fun h => (no h).elim⟩
    · exact ⟨_, s.engine.latches, s.engine.lines, rfl, fun h => (no h).elim⟩
  · exact ⟨s.pulse, s.engine.latches, s.engine.lines, rfl, fun _ => rfl⟩

/-- The test timer's strobe, by the mode and the timer (R139, R140). -/
theorem tickTestTimer_expires {s : State} (hs : latching s.store.state = true) (ht : s.pulse.test = true)
    (h1 : s.pulse.timer = 1) : Latched .testModeChange (tickTestTimer s) ∧
      (tickTestTimer s).pulse = { s.pulse with test := false, pendingCount := 0, timer := 0, lastExit := .timer } := by
  have e : tickTestTimer s = raise .testModeChange { s with pulse := { s.pulse with
      test := false, pendingCount := 0, timer := 0, lastExit := .timer } } := by
    simp [tickTestTimer, endTest, ht, h1]
  rw [e]
  exact ⟨latched_raise _ hs, by rw [raise_pulse]⟩

theorem tickTestTimer_falls {s : State} (ht : s.pulse.test = true) (h : 1 < s.pulse.timer) :
    (tickTestTimer s).pulse = { s.pulse with timer := s.pulse.timer - 1 } := by
  have more : s.pulse.timer - 1 ≠ 0 := by omega
  simp [tickTestTimer, ht, more]

/-- The state before the test timer counts the strobe. -/
def framed (s : State) : State := sendFrames s.assembly.strobe (openSet (closeDueSet s))

theorem issueStrobe_eq (s : State) : issueStrobe s = tickTestTimer (framed s) := rfl

/-- The link after the closing that a strobe issue begins with, if a set is due (R9). -/
def linkAfterClosing (s : State) (φ : Phase) : Link :=
  match setToClose s with
  | some o => closedLink o φ (s.assembly.links.get φ)
  | none => s.assembly.links.get φ

theorem closeDueSet_some {s : State} {o : OpenSet} (h : setToClose s = some o) : closeDueSet s = closeSet o s := by
  rw [closeDueSet, h]

theorem closeDueSet_none {s : State} (h : setToClose s = none) : closeDueSet s = s := by
  rw [closeDueSet, h]

theorem setToClose_number {s : State} {o : OpenSet} (h : setToClose s = some o) : o.number = s.assembly.strobe - 2#8 :=
  eq_of_beq (List.find?_some (p := fun x : OpenSet => x.number == s.assembly.strobe - 2#8) h)

/-- Stage 1 of a strobe issue, by what it changes (R1). -/
theorem closeDueSet_parts (s : State) : ∃ l x q r a n b w k c, closeDueSet s = { s with
      assembly := { s.assembly with links := l, openSets := x, quality := q, substitutionRun := r }
      timeBase := b
      store := { s.store with backup := c }
      wires := { s.wires with sets := k, notices := w }
      engine := { s.engine with latches := a, lines := n } } ∧
    (∀ φ, l.get φ = linkAfterClosing s φ) ∧
    x.map OpenSet.number =
      (s.assembly.openSets.map OpenSet.number).filter (fun m => m != s.assembly.strobe - 2#8) := by
  cases h : setToClose s with
  | none =>
    rw [closeDueSet_none h]
    refine ⟨s.assembly.links, s.assembly.openSets, s.assembly.quality, s.assembly.substitutionRun, s.engine.latches,
      s.engine.lines, s.timeBase, s.wires.notices, s.wires.sets, s.store.backup, rfl, fun φ => ?_, ?_⟩
    · rw [linkAfterClosing, h]
    · refine (List.filter_eq_self.mpr fun m hm => ?_).symm
      obtain ⟨o, ho, rfl⟩ := List.mem_map.mp hm
      simpa using List.find?_eq_none.mp h o ho
  | some o =>
    obtain ⟨l, x, a, n, b, w, c, e, links, numbers⟩ := closeSet_parts o s
    rw [closeDueSet_some h]
    refine ⟨l, x, _, _, a, n, b, w, _, c, e, fun φ => ?_, ?_⟩
    · rw [linkAfterClosing, h, links φ]
    · rw [numbers, setToClose_number h]

/-- The whole of a strobe issue, by what it changes: the frames and the links by R2, the newest set, the time base, the
test timer, and no block behind them (R1, R2, R139). -/
theorem issueStrobe_parts (s : State) : ∃ x q r a n b w k c u, issueStrobe s = { s with
      assembly := { s.assembly with
        links := .of fun φ => (linkFrames s.assembly.strobe (linkAfterClosing s φ)).2
        sent := .of fun φ => (linkFrames s.assembly.strobe (linkAfterClosing s φ)).1
        openSets := x ++ [⟨s.assembly.strobe, freshSlots s.assembly.phases⟩]
        strobe := s.assembly.strobe + 1#8
        quality := q, substitutionRun := r }
      timeBase := b
      pulse := u
      store := { s.store with backup := c }
      wires := { s.wires with sets := k, notices := w }
      engine := { s.engine with latches := a, lines := n } } ∧
    x.map OpenSet.number =
      (s.assembly.openSets.map OpenSet.number).filter (fun m => m != s.assembly.strobe - 2#8) ∧
    (s.pulse.test = false → u = s.pulse) := by
  obtain ⟨l, x, q, r, a, n, b, w, k, c, e, links, numbers⟩ := closeDueSet_parts s
  obtain ⟨u, a', n', tick, normal⟩ := tickTestTimer_shape (framed s)
  have framedEq : framed s = { s with
      assembly := { s.assembly with
        links := .of fun φ => (linkFrames s.assembly.strobe (linkAfterClosing s φ)).2
        sent := .of fun φ => (linkFrames s.assembly.strobe (linkAfterClosing s φ)).1
        openSets := x ++ [⟨s.assembly.strobe, freshSlots s.assembly.phases⟩]
        strobe := s.assembly.strobe + 1#8
        quality := q, substitutionRun := r }
      timeBase := b
      store := { s.store with backup := c }
      wires := { s.wires with sets := k, notices := w }
      engine := { s.engine with latches := a, lines := n } } := by
    simp only [framed, sendFrames, openSet, e, links]
  rw [issueStrobe_eq, tick]
  rw [framedEq] at normal ⊢
  exact ⟨x, q, r, a', n', b, w, k, c, u, rfl, numbers, normal⟩

/-- What is latched by the closing of a strobe issue is latched after it. -/
theorem Latched.issueStrobe {k : EventKind} {s : State} (h : Latched k (closeDueSet s)) : Latched k (issueStrobe s) :=
  Latched.tickTestTimer (s := framed s) h

/-- The frames of a link that sends a RESTART (R2). -/
theorem linkFrames_restart {n : Byte} {l : Link} (hs : l.state ≠ .disabled) (hc : l.control = .restart) :
    linkFrames n l = ([strobeFrame n, restartFrame], { l with control := .empty }) := by
  unfold linkFrames
  split
  · next h => exact absurd h hs
  all_goals rw [if_pos hc]

/-- The frames of a link that identifies its head (R2). -/
theorem linkFrames_identify {n : Byte} {l : Link} (hs : l.state = .down ∨ l.state = .mismatch) (hc : l.control = .empty)
    (h0 : l.countdown = 0) :
    linkFrames n l = ([strobeFrame n, identifyFrame], { l with countdown := identifyPeriod }) := by
  rcases hs with hs | hs <;> simp [linkFrames, hs, hc, h0]

theorem linkFrames_waits {n : Byte} {l : Link} (hs : l.state = .down ∨ l.state = .mismatch) (hc : l.control = .empty)
    (h0 : 0 < l.countdown) : linkFrames n l = ([strobeFrame n], { l with countdown := l.countdown - 1 }) := by
  have more : l.countdown ≠ 0 := by omega
  rcases hs with hs | hs <;> simp [linkFrames, hs, hc, more]

theorem linkFrames_locked {n : Byte} {l : Link} (hs : l.state = .locked) (hc : l.control = .empty) :
    linkFrames n l = ([strobeFrame n], l) := by simp [linkFrames, hs, hc]

theorem linkFrames_disabled {n : Byte} {l : Link} (hs : l.state = .disabled) : linkFrames n l = ([], l) := by
  simp [linkFrames, hs]

theorem linkAfterClosing_unlocked {s : State} {φ : Phase} (h : (s.assembly.links.get φ).state ≠ .locked) :
    linkAfterClosing s φ = s.assembly.links.get φ := by
  unfold linkAfterClosing
  split
  · exact closedLink_unlocked h
  · rfl

theorem holdsSample_iff (x : Slot) : holdsSample x = true ↔ ∃ y, x = .filled y := by
  cases x with
  | filled y => exact ⟨fun _ => ⟨y, rfl⟩, fun _ => rfl⟩
  | _ => exact ⟨nofun, nofun⟩

theorem holdsSample_false {x : Slot} (h : ∀ y, x ≠ .filled y) : holdsSample x = false := by
  rw [← Bool.not_eq_true, holdsSample_iff]
  exact fun ⟨y, e⟩ => h y e

theorem phaseInUse_iff (u : PhasesInUse) (φ : Phase) : phaseInUse u φ = true ↔ u = .three ∨ φ = .p1 := by
  simp [phaseInUse]

theorem exec_strobeIssue {s : State} (h : s.store.state = .running) : exec .strobeIssue s = .next (issueStrobe s) :=
  congrArg _ (if_pos h)

/-- Settles O27. -/
theorem strobeIssue : Obligations.StrobeIssue := by
  intro s
  refine ⟨fun stopped => congrArg _ (if_neg stopped), fun running => ⟨_, exec_strobeIssue running, ?_⟩⟩
  obtain ⟨x, q, r, a, n, b, w, k, c, u, e, numbers, normal⟩ := issueStrobe_parts s
  have latched {j} (h : Latched j (closeDueSet s)) := h.issueStrobe
  rw [e] at latched ⊢
  refine ⟨rfl, ?numbers, ⟨_, List.getLast?_concat, rfl, fun φ => ?slots⟩, fun φ => ?links, rfl, rfl, rfl, rfl, rfl, rfl, rfl,
    normal, rfl, rfl, rfl, rfl⟩
  case numbers => simp [numbers]
  case slots => simp [freshSlots, phaseInUse_iff]
  case links =>
    have control : (linkAfterClosing s φ).control = (s.assembly.links.get φ).control := by
      unfold linkAfterClosing
      split <;> simp
    have disabled : (linkAfterClosing s φ).state = .disabled ↔ (s.assembly.links.get φ).state = .disabled := by
      unfold linkAfterClosing
      split
      · exact closedLink_disabled _ _ _
      · exact Iff.rfl
    simp only [PerPhase.get_of]
    have idle (h : (s.assembly.links.get φ).state = .down ∨ (s.assembly.links.get φ).state = .mismatch) :
        linkAfterClosing s φ = s.assembly.links.get φ :=
      linkAfterClosing_unlocked (by rcases h with h | h <;> rw [h] <;> nofun)
    refine ⟨fun hs => ?_, fun hs hc => ?_, fun hs hc => ?_, fun hs hc h0 => ?_, fun hs hc h0 => ?_, fun hs hc none => ?_,
      fun o hs hc due => ⟨fun y hy => ?_, fun hy short => ?_, fun hy long => ?_⟩⟩
    · rw [linkAfterClosing_unlocked (by rw [hs]; nofun), linkFrames_disabled hs]
      exact ⟨rfl, rfl⟩
    · rw [linkFrames_restart (fun h => hs (disabled.mp h)) (control.trans hc)]
      exact ⟨rfl, rfl⟩
    · rw [idle hs, linkFrames_restart (by rcases hs with h | h <;> rw [h] <;> nofun) hc]
    · rw [idle hs, linkFrames_identify hs hc h0]
      exact ⟨rfl, rfl⟩
    · rw [idle hs, linkFrames_waits hs hc h0]
      exact ⟨rfl, rfl⟩
    · have same : linkAfterClosing s φ = s.assembly.links.get φ := by rw [linkAfterClosing, none]
      rw [same, linkFrames_locked hs hc]
      exact ⟨rfl, rfl⟩
    all_goals
      have closed : linkAfterClosing s φ = closedLink o φ (s.assembly.links.get φ) := by rw [linkAfterClosing, due]
    · have e : closedLink o φ (s.assembly.links.get φ) = { s.assembly.links.get φ with missingRun := 0 } := by
        simp [closedLink, hs, hy, holdsSample]
      rw [closed, e, linkFrames_locked (by exact hs) (by exact hc)]
      exact ⟨rfl, rfl⟩
    · have e : closedLink o φ (s.assembly.links.get φ) =
          { s.assembly.links.get φ with missingRun := (s.assembly.links.get φ).missingRun + 1 } := by
        have more : ¬ missingRunLimit ≤ (s.assembly.links.get φ).missingRun + 1 := Nat.not_le.mpr short
        simp [closedLink, hs, holdsSample_false hy, more]
      rw [closed, e, linkFrames_locked (by exact hs) (by exact hc)]
      exact ⟨rfl, rfl⟩
    · have down : goesDown o φ (s.assembly.links.get φ) := ⟨hs, holdsSample_false hy, long⟩
      rw [closed, closedLink_down down, linkFrames_identify (by exact .inl rfl) (by exact hc) rfl]
      refine ⟨rfl, latched ?_, rfl⟩
      rw [closeDueSet_some due, closeSet_eq]
      obtain ⟨a1, n1, e1⟩ := closeQuality_eq o s
      refine (missingRuns_latched (φ := φ) ?_ ?_).countClosing
      · rw [e1]
        exact latching_running running
      · rw [e1]
        exact down

end Sys2Proof.Machine
end

section
/-! PROOF. Closed sets, the second boundary, the strobe expiries and upstream frames (R3, R5 to R7, R11, R13 to R16, R56, R59,
R60, R64, R139, R149). -/

namespace Sys2Proof.Machine

/-! ## Dispositions and qualities (R14 to R16) -/

theorem closePhase_unused (slot : Slot) (q : Quality) (run : Nat) :
    closePhase false slot q run = ⟨.disabled, .disabled, 0⟩ := rfl

theorem closePhase_sample (x : Sample) (q : Quality) (run : Nat) :
    closePhase true (.filled x) q run = ⟨.sample x, .good, 0⟩ := rfl

/-- A set without a sample for a phase in use, by the phase's quality (Table 1-4). -/
theorem closePhase_empty {slot : Slot} (h : ∀ x, slot ≠ .filled x) (q : Quality) (run : Nat) :
    closePhase true slot q run =
      match q with
      | .good => ⟨.substituted, .substituting, 1⟩
      | .substituting =>
        if substitutionLimit ≤ run + 1 then ⟨.substituted, .lost, 0⟩ else ⟨.substituted, .substituting, run + 1⟩
      | .lost => ⟨.lost, .lost, 0⟩
      | .disabled => ⟨.lost, .lost, 0⟩ := by
  cases slot with
  | filled x => exact absurd rfl (h x)
  | _ => cases q <;> rfl

theorem phaseClosing_unused {s : State} {o : OpenSet} {φ : Phase} (h : phaseInUse s.assembly.phases φ = false) :
    phaseClosing s o φ = ⟨.disabled, .disabled, 0⟩ := by
  rw [phaseClosing, h, closePhase_unused]

theorem phaseClosing_sample {s : State} {o : OpenSet} {φ : Phase} {x : Sample}
    (h : phaseInUse s.assembly.phases φ = true) (hx : o.slots.get φ = .filled x) :
    phaseClosing s o φ = ⟨.sample x, .good, 0⟩ := by
  rw [phaseClosing, h, hx, closePhase_sample]

theorem phaseClosing_empty {s : State} {o : OpenSet} {φ : Phase} (h : phaseInUse s.assembly.phases φ = true)
    (hx : ∀ x, o.slots.get φ ≠ .filled x) : phaseClosing s o φ =
      match s.assembly.quality.get φ with
      | .good => ⟨.substituted, .substituting, 1⟩
      | .substituting =>
        if substitutionLimit ≤ s.assembly.substitutionRun.get φ + 1 then ⟨.substituted, .lost, 0⟩
        else ⟨.substituted, .substituting, s.assembly.substitutionRun.get φ + 1⟩
      | .lost => ⟨.lost, .lost, 0⟩
      | .disabled => ⟨.lost, .lost, 0⟩ := by
  rw [phaseClosing, h, closePhase_empty hx]

/-- A phase whose substitution run reaches the limit becomes LOST (R16). -/
theorem phaseClosing_limit {s : State} {o : OpenSet} {φ : Phase} (h : phaseInUse s.assembly.phases φ = true)
    (hx : ∀ x, o.slots.get φ ≠ .filled x) (hq : s.assembly.quality.get φ = .substituting)
    (limit : 4000 ≤ s.assembly.substitutionRun.get φ + 1) : phaseClosing s o φ = ⟨.substituted, .lost, 0⟩ := by
  rw [phaseClosing_empty h hx, hq]
  exact if_pos limit

/-- The assembly and the closed sets after a strobe issue that closes a set (R14). -/
theorem issueStrobe_closes {s : State} {o : OpenSet} (h : setToClose s = some o) :
    (issueStrobe s).wires.sets = s.wires.sets ++ [closedSet s o] ∧
      (issueStrobe s).assembly.quality = .of (fun φ => (phaseClosing s o φ).quality) ∧
      (issueStrobe s).assembly.substitutionRun = .of fun φ => (phaseClosing s o φ).run := by
  obtain ⟨l, x, a, n, b, w, c, e, -, -⟩ := closeSet_parts o s
  obtain ⟨u, a', n', tick, -⟩ := tickTestTimer_shape (framed s)
  rw [issueStrobe_eq, tick, framed, closeDueSet_some h, e]
  exact ⟨rfl, rfl, rfl⟩

/-- An event of the quality part of a closing is latched after the strobe issue. -/
theorem issueStrobe_latches {s : State} {o : OpenSet} {k : EventKind} (h : setToClose s = some o)
    (latched : Latched k (closeQuality o s)) : Latched k (issueStrobe s) := by
  refine Latched.issueStrobe ?_
  rw [closeDueSet_some h, closeSet_eq]
  exact (latched.missingRuns o).countClosing

/-- Settles O28. -/
theorem setClosing : Obligations.SetClosing := by
  intro s o running due
  obtain ⟨sets, quality, runs⟩ := issueStrobe_closes due
  refine ⟨_, .of fun φ => (phaseClosing s o φ).disposition, exec_strobeIssue running, ?_, fun φ => ?_⟩
  · rw [sets, quality]
    rfl
  intro inUse q run gives
  have made {x : Disposition} {y : Quality} {k : Nat} (e : phaseClosing s o φ = ⟨x, y, k⟩) : gives x y k := by
    change PerPhase.get _ φ = x ∧ (issueStrobe s).assembly.quality.get φ = y ∧
      (issueStrobe s).assembly.substitutionRun.get φ = k
    rw [quality, runs, PerPhase.get_of, PerPhase.get_of, PerPhase.get_of, e]
    exact ⟨rfl, rfl, rfl⟩
  refine ⟨fun out => made (phaseClosing_unused ?_), fun used x hx => ⟨?_, fun lost => ?_⟩,
    fun used hx => ⟨fun good => ?_, fun sub short => ?_, fun sub limit => ⟨?_, ?_⟩, fun lost => ?_⟩⟩
  · rw [← Bool.not_eq_true, phaseInUse_iff]
    exact out
  all_goals have used' := (phaseInUse_iff _ _).mpr used
  · exact made (phaseClosing_sample used' hx)
  · refine issueStrobe_latches due (closeQuality_restored (φ := φ) (latching_running running) ?_)
    have lost' : s.assembly.quality.get φ = .lost := lost
    simp [becomesRestored, phaseClosing_sample used' hx, lost']
  all_goals have closing := phaseClosing_empty used' hx
  · refine made (closing.trans ?_)
    rw [show s.assembly.quality.get φ = .good from good]
  · refine made (closing.trans ?_)
    rw [show s.assembly.quality.get φ = .substituting from sub]
    exact if_neg (Nat.not_le.mpr short)
  · exact made (phaseClosing_limit used' hx sub limit)
  · refine issueStrobe_latches due (closeQuality_lost (φ := φ) (latching_running running) ?_)
    have sub' : s.assembly.quality.get φ = .substituting := sub
    simp [becomesLost, phaseClosing_limit used' hx sub' limit, sub']
  · refine made (closing.trans ?_)
    rw [show s.assembly.quality.get φ = .lost from lost]

/-! ## The second boundary (R56, R59, R60, R64, R149) -/

/-- What a strobe issue does to time base, notices and store is what the closing of its set does. -/
theorem issueStrobe_times {s : State} {o : OpenSet} (h : setToClose s = some o) :
    (issueStrobe s).timeBase = (closeSet o s).timeBase ∧
      (issueStrobe s).wires.notices = (closeSet o s).wires.notices ∧ (issueStrobe s).store = (closeSet o s).store := by
  obtain ⟨u, a', n', tick, -⟩ := tickTestTimer_shape (framed s)
  rw [issueStrobe_eq, tick, framed, closeDueSet_some h]
  generalize closeSet o s = t
  exact ⟨rfl, rfl, rfl⟩

theorem afterBoundary_step {b : TimeBase} {x : Instant} (h : b.step = some x) :
    afterBoundary b = openSecond b x true 0 := by
  rw [afterBoundary, h]

theorem afterBoundary_runs {b : TimeBase} (h : b.step = none) : afterBoundary b =
    openSecond b (carryDay b.start.day (b.start.second + 1))
      (b.set && !dayWraps b.start.day (b.start.second + 1)) b.slew := by
  rw [afterBoundary, h]
  rfl

/-- Settles O29. -/
theorem secondBoundary : Obligations.SecondBoundary := by
  intro s o running closes b
  obtain ⟨time, notices, store⟩ := issueStrobe_times closes
  refine ⟨fun short => ?counts, fun full => ?boundary⟩
  case counts =>
    have notDue : boundaryDue s.timeBase = false := decide_eq_false (Nat.not_le.mpr short)
    obtain ⟨time', notices', store'⟩ := closeSet_counts (o := o) notDue
    exact ⟨_, exec_strobeIssue running, time.trans time', notices.trans notices', store.trans store'⟩
  case boundary =>
    have due : boundaryDue s.timeBase = true := decide_eq_true full
    obtain ⟨time', notices', store'⟩ := closeSet_due (o := o) due
    have times : (issueStrobe s).timeBase = afterBoundary b := time.trans time'
    have event : exec .secondBoundary s = .next (issueStrobe s) := by
      refine congrArg _ (if_pos ?_)
      simp [running, closes, due]
    refine ⟨_, event, exec_strobeIssue running, notices.trans notices', ?_, ?_, ?_, fun x hx => ?_, fun hx => ?_⟩
    · rw [times, afterBoundary]
      split <;> rfl
    · rw [times, afterBoundary]
      split <;> rfl
    · rw [times]
      exact store.trans store'
    · rw [times, afterBoundary_step hx]
      refine ⟨rfl, rfl, rfl, rfl, Latched.issueStrobe ?_⟩
      rw [closeDueSet_some closes]
      exact closeSet_stepped (latching_running running) due (by rw [hx]; rfl)
    · rw [times, afterBoundary_runs hx]
      refine ⟨fun inDay => ?_, fun last more => ?_, fun final => ?_, fun fast => ?_, fun slow => ?_, fun low high => ?_⟩
      · have no : ¬ 86400 ≤ b.start.second + 1 := by omega
        simp [openSecond, carryDay, dayWraps, no]
      · have carries : 86400 ≤ b.start.second + 1 := by omega
        have stays : ¬ 65535 ≤ b.start.day := by omega
        simp [openSecond, carryDay, dayWraps, carries, stays]
      · rw [final]
        simp [openSecond, carryDay, dayWraps]
      · simp [openSecond, secondLength, fast]
      · have notFast : ¬ 40 ≤ b.slew := by omega
        simp [openSecond, secondLength, notFast, slow]
      · have notFast : ¬ 40 ≤ b.slew := by omega
        have notSlow : ¬ b.slew ≤ -40 := by omega
        have positive : 0 ≤ 4000 - b.slew := by omega
        simp [openSecond, secondLength, notFast, notSlow, Int.toNat_of_nonneg positive]

/-! ## Expiries at a strobe (R2, R9, R16, R139, R140) -/

/-- Before the test timer counts the strobe, the pulse unit and the state of the store stand as they were. -/
theorem framed_pulse (s : State) : (framed s).pulse = s.pulse ∧ (framed s).store.state = s.store.state := by
  obtain ⟨l, x, q, r, a, n, b, w, k, c, e, -, -⟩ := closeDueSet_parts s
  rw [framed, e]
  exact ⟨rfl, rfl⟩

/-- Settles O30. -/
theorem strobeExpiries : Obligations.StrobeExpiries := by
  intro s φ running
  have issues := exec_strobeIssue running
  refine ⟨fun hs hc h0 => ?countdown,
    fun o closes hx => ⟨fun locked run => ?missing, fun used sub run => ?substitution⟩,
    fun testing one => ?timer, fun testing more => ?falls⟩
  case countdown =>
    have idle : linkAfterClosing s φ = s.assembly.links.get φ :=
      linkAfterClosing_unlocked (by rcases hs with h | h <;> rw [h] <;> nofun)
    obtain ⟨x, q, r, a, n, b, w, k, c, u, e, -, -⟩ := issueStrobe_parts s
    obtain ⟨l, _, _, _, _, _, _, _, _, _, closing, links, -⟩ := closeDueSet_parts s
    have frames := linkFrames_identify (n := s.assembly.strobe) hs hc h0
    have due : identifyDue φ s = true := by
      have link : (closeDueSet s).assembly.links.get φ = s.assembly.links.get φ := by
        rw [closing]
        exact (links φ).trans idle
      simp [identifyDue, link, frames]
    have event : exec (.identifyCountdownExpiry φ) s = .next (issueStrobe s) :=
      congrArg _ (if_pos (by simp [running, due]))
    refine ⟨_, event, issues, ?_⟩
    rw [e]
    simp [idle, frames, identifyPeriod]
  case missing =>
    have down : goesDown o φ (s.assembly.links.get φ) :=
      ⟨locked, holdsSample_false hx, by rw [run, missingRunLimit]⟩
    have due : missingRunDue φ s = true := by
      simp [missingRunDue, closes, locked, holdsSample_false hx, run, missingRunLimit]
    obtain ⟨x, q, r, a, n, b, w, k, c, u, e, -, -⟩ := issueStrobe_parts s
    have link : linkAfterClosing s φ =
        { s.assembly.links.get φ with state := .down, missingRun := 0, countdown := 0 } := by
      rw [linkAfterClosing, closes]
      exact closedLink_down down
    have event : exec (.missingRunExpiry φ) s = .next (issueStrobe s) := congrArg _ (if_pos (by simp [running, due]))
    refine ⟨_, event, issues, ?_⟩
    rw [e]
    simp only [PerPhase.get_of, link, linkFrames]
    split
    · exact ⟨rfl, rfl⟩
    · exact ⟨rfl, rfl⟩
  case substitution =>
    have limit : 4000 ≤ s.assembly.substitutionRun.get φ + 1 := by omega
    have closing := phaseClosing_limit used hx sub limit
    have lost : becomesLost s o φ = true := by simp [becomesLost, closing, sub]
    obtain ⟨-, quality, runs⟩ := issueStrobe_closes closes
    have event : exec (.substitutionRunExpiry φ) s = .next (issueStrobe s) :=
      congrArg _ (if_pos (by simp [running, substitutionDue, closes, lost]))
    refine ⟨_, event, issues, ?_, ?_, ?_⟩
    · rw [quality, PerPhase.get_of, closing]
    · rw [runs, PerPhase.get_of, closing]
    · exact issueStrobe_latches closes (closeQuality_lost (latching_running running) lost)
  case timer =>
    obtain ⟨pulse, state⟩ := framed_pulse s
    obtain ⟨latched, after⟩ := tickTestTimer_expires (s := framed s)
      (by rw [state]; exact latching_running running) (by rw [pulse, testing]) (by rw [pulse, one])
    have event : exec .testTimerExpiry s = .next (issueStrobe s) :=
      congrArg _ (if_pos (by simp [running, testing, one]))
    refine ⟨_, event, issues, latched, ?_⟩
    rw [issueStrobe_eq, after, pulse]
  case falls =>
    have pulse := (framed_pulse s).1
    refine ⟨_, issues, ?_⟩
    rw [issueStrobe_eq, tickTestTimer_falls (by rw [pulse, testing]) (by rw [pulse]; exact more), pulse]

/-! ## Upstream frames (R3, R5 to R7, R11, R13) -/

/-- A link that receives counts an invalid frame (R3). -/
theorem receiveFrame_invalid {s : State} {φ : Phase} {bytes : List Byte} (hr : s.store.state = .running)
    (hs : (s.assembly.links.get φ).state ≠ .disabled) (hb : bytes ≠ []) (h : upstreamOf bytes = none) :
    receiveFrame φ bytes s = countInvalid φ s := by
  simp [receiveFrame, hr, hs, hb, h]

theorem receiveFrame_identity {s : State} {φ : Phase} {bytes : List Byte} {serial : Word} {c : Nat}
    (hr : s.store.state = .running) (hs : (s.assembly.links.get φ).state ≠ .disabled) (hb : bytes ≠ [])
    (h : upstreamOf bytes = some (.identity serial c)) : receiveFrame φ bytes s = takeIdentity φ serial c s := by
  simp [receiveFrame, hr, hs, hb, h]

theorem receiveFrame_sample {s : State} {φ : Phase} {bytes : List Byte} {n : Byte} {x : Sample}
    (hr : s.store.state = .running) (hs : (s.assembly.links.get φ).state ≠ .disabled) (hb : bytes ≠ [])
    (h : upstreamOf bytes = some (.sample n x)) : receiveFrame φ bytes s =
      if (s.assembly.links.get φ).state = .locked then takeSample φ n x s else s := by
  simp [receiveFrame, hr, hs, hb, h]

/-- A frame that is no valid frame (R3, R176). -/
theorem upstreamOf_invalid {bytes : List Byte} (h : byteSum bytes % 256 ≠ 0 ∨
    (bytes[0]? ≠ some 3#8 ∧ bytes[0]? ≠ some 4#8) ∨ (bytes[0]? = some 3#8 ∧ bytes.length ≠ 8) ∨
    (bytes[0]? = some 4#8 ∧ bytes.length ≠ 7) ∨
    (bytes[0]? = some 4#8 ∧ ∃ c, bytes[5]? = some c ∧ (c.toNat < 1 ∨ 4 < c.toNat))) : upstreamOf bytes = none := by
  unfold upstreamOf
  split
  · rfl
  next sum =>
  have rest := h.resolve_left sum
  split
  · next t n vh vl ih il flags k =>
    have notSample : t ≠ 3#8 := by
      rintro rfl
      simp at rest
    exact if_neg notSample
  · next t b3 b2 b1 b0 c k =>
    refine if_neg ?_
    rintro ⟨rfl, low, high⟩
    simp at rest
    omega
  · rfl

theorem upstreamOf_identity {b3 b2 b1 b0 c k : Byte} (sum : byteSum [4#8, b3, b2, b1, b0, c, k] % 256 = 0)
    (low : 1 ≤ c.toNat) (high : c.toNat ≤ 4) :
    upstreamOf [4#8, b3, b2, b1, b0, c, k] = some (.identity (b3 ++ b2 ++ b1 ++ b0) c.toNat) := by
  rw [upstreamOf, if_neg (not_not.mpr sum)]
  exact if_pos ⟨rfl, low, high⟩

theorem upstreamOf_sample {n vh vl ih il x k : Byte} (sum : byteSum [3#8, n, vh, vl, ih, il, x, k] % 256 = 0) :
    upstreamOf [3#8, n, vh, vl, ih, il, x, k] =
      some (.sample n ⟨(vh ++ vl).toInt, (ih ++ il).toInt, x.getLsbD 0⟩) := by
  rw [upstreamOf, if_neg (not_not.mpr sum)]
  exact if_pos rfl

@[simp] theorem PerPhase.set_set {α : Type} (v : PerPhase α) (φ : Phase) (x y : α) :
    (v.set φ x).set φ y = v.set φ y := by
  cases φ <;> rfl

/-- A link of a recorded identity that changes its state, from one that was not LOCKED (R4 to R7). -/
theorem changeLink_recorded {φ : Phase} {s : State} {serial : Word} {c : Nat} {target : LinkState}
    (hs : latching s.store.state = true) (ht : (s.assembly.links.get φ).state ≠ target)
    (hl : (s.assembly.links.get φ).state ≠ .locked) :
    let t := changeLink φ target (recordIdentity φ serial c s)
    t.assembly.links = s.assembly.links.set φ
        (enterState { s.assembly.links.get φ with serial := serial, reportedClass := c } target) ∧
      t.assembly.openSets = s.assembly.openSets ∧ Latched .linkChange t := by
  have link : (recordIdentity φ serial c s).assembly.links.get φ =
      { s.assembly.links.get φ with serial := serial, reportedClass := c } := PerPhase.get_set_same _ _ _
  have moves : ((recordIdentity φ serial c s).assembly.links.get φ).state ≠ target := by rw [link]; exact ht
  refine ⟨?_, ?_, changeLink_latched hs moves⟩
  · rw [changeLink_links moves, link]
    exact PerPhase.set_set _ _ _ _
  · rw [changeLink, if_neg moves, raise_assembly]
    exact if_neg (by rw [link]; exact hl)

/-- No slot of a phase holds a sample after its slots are emptied (R4). -/
theorem emptySlots_empty {φ : Phase} {sets : List OpenSet} {o : OpenSet} (h : o ∈ emptySlots φ sets) (x : Sample) :
    o.slots.get φ ≠ .filled x := by
  obtain ⟨o', -, rfl⟩ := List.mem_map.mp h
  rw [PerPhase.get_set_same]
  cases o'.slots.get φ <;> nofun

/-- A LOCKED link that reports another class: MISMATCH, and its samples dropped (R4, R6). -/
theorem changeLink_unlocks {φ : Phase} {s : State} {serial : Word} {c : Nat} (hs : latching s.store.state = true)
    (hl : (s.assembly.links.get φ).state = .locked) :
    let t := changeLink φ .mismatch (recordIdentity φ serial c s)
    t.assembly.links = s.assembly.links.set φ { s.assembly.links.get φ with
        serial := serial, reportedClass := c, state := .mismatch, countdown := 0, missingRun := 0 } ∧
      (∀ o ∈ t.assembly.openSets, ∀ x, o.slots.get φ ≠ .filled x) ∧ Latched .linkChange t := by
  have link : (recordIdentity φ serial c s).assembly.links.get φ =
      { s.assembly.links.get φ with serial := serial, reportedClass := c } := PerPhase.get_set_same _ _ _
  have locked : ((recordIdentity φ serial c s).assembly.links.get φ).state = .locked := by rw [link]; exact hl
  have moves : ((recordIdentity φ serial c s).assembly.links.get φ).state ≠ .mismatch := by rw [locked]; nofun
  refine ⟨?_, fun o ho => emptySlots_empty (sets := s.assembly.openSets) ?_, changeLink_latched hs moves⟩
  · rw [changeLink_links moves, link]
    refine (PerPhase.set_set _ _ _ _).trans ?_
    rw [enterState, if_pos hl]
  · rw [changeLink, if_neg moves, raise_assembly, if_pos locked] at ho
    exact ho

theorem any_takesSample {φ : Phase} {n : Byte} {sets : List OpenSet} :
    sets.any (takesSample φ n) = true ↔ ∃ o ∈ sets, o.number = n ∧ o.slots.get φ = .empty := by
  simp [takesSample]

/-- Settles O31. -/
theorem upstreamFrames : Obligations.UpstreamFrames := by
  intro φ s l withLink
  refine ⟨fun bytes h => congrArg _ (if_pos (h.elim .inl fun d => .inr (.inl d))), fun running live =>
    ⟨fun bytes some invalid => ?invalid, fun b3 b2 b1 b0 c k sum low high => ?identity,
      fun n vh vl ih il x k sum => ?sample⟩⟩
  case invalid =>
    exact congrArg _ (receiveFrame_invalid running live some (upstreamOf_invalid invalid))
  case identity =>
    intro serial taken
    have takes : exec (.upstreamFrame φ [4#8, b3, b2, b1, b0, c, k]) s = .next (takeIdentity φ serial c.toNat s) := by
      exact congrArg _ (receiveFrame_identity running live (by nofun) (upstreamOf_identity sum low high))
    have latches := latching_running running
    refine ⟨_, takes, fun down same => ?_, fun down other => ?_, fun locked other => ?_, fun locked same new => ?_,
      fun locked same old => ?_, fun mis same => ?_, fun mis other => ?_⟩
    · have e : takeIdentity φ serial c.toNat s = changeLink φ .locked (recordIdentity φ serial c.toNat s) := by
        simp only [takeIdentity, show (s.assembly.links.get φ).state = .down from down]
        rw [if_pos same]
      rw [e]
      have stays : (s.assembly.links.get φ).state ≠ .locked := by rw [show _ = LinkState.down from down]; nofun
      obtain ⟨links, sets, latched⟩ := changeLink_recorded (φ := φ) (serial := serial) (c := c.toNat) latches stays stays
      refine ⟨links.trans ?_, sets, latched⟩
      rw [enterState, if_neg stays]
    · have e : takeIdentity φ serial c.toNat s = changeLink φ .mismatch (recordIdentity φ serial c.toNat s) := by
        simp only [takeIdentity, show (s.assembly.links.get φ).state = .down from down]
        rw [if_neg other]
      rw [e]
      have stays : (s.assembly.links.get φ).state ≠ .locked := by rw [show _ = LinkState.down from down]; nofun
      obtain ⟨links, sets, latched⟩ := changeLink_recorded (φ := φ) (serial := serial) (c := c.toNat)
        (target := .mismatch) latches (by rw [show _ = LinkState.down from down]; nofun) stays
      refine ⟨links.trans ?_, sets, latched⟩
      rw [enterState, if_neg stays]
    · have e : takeIdentity φ serial c.toNat s = changeLink φ .mismatch (recordIdentity φ serial c.toNat s) := by
        simp only [takeIdentity, show (s.assembly.links.get φ).state = .locked from locked]
        rw [if_neg other]
      rw [e]
      exact changeLink_unlocks latches locked
    · have e : takeIdentity φ serial c.toNat s = raise .linkChange (setLink φ { l with serial := serial } s) := by
        simp only [takeIdentity, show (s.assembly.links.get φ).state = .locked from locked]
        rw [if_pos same, if_neg new, ← show (s.assembly.links.get φ).state = .locked from locked]
      rw [e]
      exact ⟨raise_assembly _ _, latched_raise _ latches⟩
    · simp only [takeIdentity, show (s.assembly.links.get φ).state = .locked from locked]
      rw [if_pos same, if_pos old]
    · have e : takeIdentity φ serial c.toNat s = changeLink φ .locked (recordIdentity φ serial c.toNat s) := by
        simp only [takeIdentity, show (s.assembly.links.get φ).state = .mismatch from mis]
        rw [if_pos same]
      rw [e]
      have stays : (s.assembly.links.get φ).state ≠ .locked := by rw [show _ = LinkState.mismatch from mis]; nofun
      obtain ⟨links, -, latched⟩ := changeLink_recorded (φ := φ) (serial := serial) (c := c.toNat) latches stays stays
      refine ⟨links.trans ?_, latched⟩
      rw [enterState, if_neg stays]
    · simp only [takeIdentity, show (s.assembly.links.get φ).state = .mismatch from mis]
      rw [if_neg other]
      rfl
  case sample =>
    intro sample
    have takes : exec (.upstreamFrame φ [3#8, n, vh, vl, ih, il, x, k]) s =
        .next (if (s.assembly.links.get φ).state = .locked then takeSample φ n sample s else s) := by
      exact congrArg _ (receiveFrame_sample running live (by nofun) (upstreamOf_sample sum))
    rw [takes]
    refine ⟨fun other => congrArg _ (if_neg other), fun locked open' => ?_, fun locked none => ?_⟩
    · refine congrArg _ ((if_pos locked).trans ((if_pos (any_takesSample.mpr open')).trans ?_))
      have fills : fillSlot φ n sample = fun o => if o.number = n ∧ o.slots.get φ = .empty then
          { o with slots := o.slots.set φ (.filled sample) } else o := by
        funext o
        simp [fillSlot, takesSample]
      rw [fills]
    · have noSlot : ¬ s.assembly.openSets.any (takesSample φ n) = true := fun any => by
        obtain ⟨o, ho, number, empty⟩ := any_takesSample.mp any
        exact none o ho number empty
      exact congrArg _ ((if_pos locked).trans (if_neg noSlot))

end Sys2Proof.Machine
end

section
/-! PROOF. The metrology unit: calibration, the set of a strobe, the close of a second (R24 to R26, R28 to R34). -/

namespace Sys2Proof.Machine

/-! ## Calibration (R24, R25) -/

/-- The magnitude is the nearest whole number of b, a tie going up (section 6, Rounding). -/
theorem roundedMagnitude_nearest (a : Nat) {b : Nat} (hb : 0 < b) :
    2 * a < 2 * (b * roundedMagnitude a b) + b ∧ 2 * (b * roundedMagnitude a b) ≤ 2 * a + b := by
  have split := Nat.div_add_mod (2 * a + b) (2 * b)
  have rest := Nat.mod_lt (2 * a + b) (Nat.mul_pos two_pos hb)
  rw [Nat.mul_assoc] at split
  unfold roundedMagnitude
  constructor <;> omega

/-- Rounding half away from zero: nearest, and farther from zero on a tie (section 6, Rounding). -/
theorem roundHalfAway_nearest (a : Int) {b : Nat} (hb : 0 < b) :
    2 * |b * roundHalfAway a b - a| ≤ b ∧
      (2 * |b * roundHalfAway a b - a| = b → |a| < |b * roundHalfAway a b|) := by
  obtain ⟨below, above⟩ := roundedMagnitude_nearest a.natAbs hb
  simp only [roundHalfAway, Int.abs_eq_natAbs]
  generalize roundedMagnitude a.natAbs b = m at below above ⊢
  have product : ((b * m : Nat) : Int) = b * m := Nat.cast_mul b m
  generalize b * m = p at below above product
  split
  · rw [mul_neg, ← product]
    omega
  · rw [← product]
    omega

theorem clampInt_eq {low high x : Int} (h : low ≤ high) : clampInt low high x = max low (min high x) := by
  unfold clampInt
  omega

theorem clampChanges_iff (raw offset : Int) (gain : Nat) : clampChanges raw offset gain = true ↔
    scaledCode raw offset gain < -32767 ∨ 32767 < scaledCode raw offset gain := by
  simp only [clampChanges, bne_iff_ne, calibratedCode, fullScale, clampInt]
  omega

/-- Settles O32. -/
theorem calibrationArithmetic : Obligations.CalibrationArithmetic := by
  intro raw offset gain
  obtain ⟨nearest, tie⟩ := roundHalfAway_nearest ((raw - offset) * gain) (b := 32768) (by decide)
  refine ⟨scaledCode raw offset gain, nearest, tie, clampInt_eq (by decide), ?_⟩
  rintro c x rfl rfl rfl
  rw [clippedSample, Bool.or_eq_true, Bool.or_eq_true, clampChanges_iff, or_assoc, or_assoc]

/-! ## Sets and seconds (R26, R28) -/

/-- A set that is neither the next second's nor behind held ones is added (R28). -/
theorem takeSet_adds {s : State} {c : CalibratedSet} (hm : measuring s = true) (hf : secondFull s = false)
    (hh : s.metrology.heldSets = []) : takeSet c s = closeWhenComplete { s with metrology := { s.metrology with
      running := addSet s.metrology.mean c s.metrology.running } } := by
  rw [takeSet, if_pos hm, hf, hh]
  rfl

theorem closeWhenComplete_unnoticed {s : State} (h : s.metrology.notices = []) : closeWhenComplete s = s := by
  rw [closeWhenComplete, h]

theorem closeWhenComplete_fills {s : State} {b : BoundaryNotice} {bs : List BoundaryNotice}
    (h : s.metrology.notices = b :: bs) (short : s.metrology.running.sets < b.count) : closeWhenComplete s = s := by
  rw [closeWhenComplete, h]
  exact if_neg (Nat.not_le.mpr short)

theorem measuring_running {s : State} (h : s.store.state = .running) : measuring s = true := by
  simp [measuring, h]

theorem closeWhenComplete_closes {s : State} {b : BoundaryNotice} {bs : List BoundaryNotice}
    (hs : s.store.state = .running) (h : s.metrology.notices = b :: bs) (full : b.count ≤ s.metrology.running.sets) :
    closeWhenComplete s = closeSecond b s := by
  rw [closeWhenComplete, h]
  exact (if_pos full).trans (if_pos (measuring_running (s := closeSecond b s) hs))

/-- The state in which the next set on its way has been added to the running second (R26). -/
def setAdded (s : State) (c : ClosedSet) (cs : List ClosedSet) : State :=
  { s with
    metrology := { s.metrology with
      running := addSet s.metrology.mean (calibrateSet s.metrology c) s.metrology.running }
    wires := { s.wires with sets := cs } }

/-- The next set on its way is added, when the second is not full, and the second closed if that fills it (R26, R28). -/
theorem exec_sampleSetTake {s : State} {c : ClosedSet} {cs : List ClosedSet} (hs : s.store.state = .running)
    (h : s.wires.sets = c :: cs) (hf : secondFull s = false) (hh : s.metrology.heldSets = []) :
    exec .sampleSetTake s = .next (closeWhenComplete (setAdded s c cs)) := by
  change execSampleSetTake s = _
  have adds := takeSet_adds (s := { s with wires := { s.wires with sets := cs } }) (c := calibrateSet s.metrology c)
    (measuring_running hs) hf hh
  rw [execSampleSetTake, h]
  exact congrArg _ adds

/-- The state in which the next notice on its way has reached the unit (R28). -/
def noticed (s : State) (b : BoundaryNotice) (bs : List BoundaryNotice) : State :=
  { s with metrology := { s.metrology with notices := [b] }, wires := { s.wires with notices := bs } }

/-- A notice for sets that are still to come is held (R28). -/
theorem exec_boundaryNotice_held {s : State} {b : BoundaryNotice} {bs : List BoundaryNotice}
    (h : s.wires.notices = b :: bs) (none : s.metrology.notices = []) (short : s.metrology.running.sets < b.count) :
    exec .boundaryNotice s = .next (noticed s b bs) := by
  change execBoundaryNotice s = _
  have waits : closeWhenComplete (noticed s b bs) = noticed s b bs := closeWhenComplete_fills rfl short
  rw [execBoundaryNotice, h]
  simp only [none, List.nil_append]
  change Host.Outcome.next (if (closeWhenComplete (noticed s b bs)).metrology.notices.length < 1
    then _ else closeWhenComplete (noticed s b bs)) = _
  rw [waits]
  rfl

/-- A notice for the sets that are in closes the second, and the sets held follow (R28). -/
theorem exec_boundaryNotice_closes {s : State} {b : BoundaryNotice} {bs : List BoundaryNotice}
    (hs : s.store.state = .running) (h : s.wires.notices = b :: bs) (none : s.metrology.notices = [])
    (full : b.count ≤ s.metrology.running.sets) :
    exec .boundaryNotice s = .next (releaseSets (closeSecond b (noticed s b bs))) := by
  change execBoundaryNotice s = _
  have closes : closeWhenComplete (noticed s b bs) = closeSecond b (noticed s b bs) :=
    closeWhenComplete_closes hs rfl full
  rw [execBoundaryNotice, h]
  simp only [none, List.nil_append]
  change Host.Outcome.next (if (closeWhenComplete (noticed s b bs)).metrology.notices.length < 1
    then releaseSets (closeWhenComplete (noticed s b bs)) else _) = _
  rw [closes]
  rfl

theorem releaseSets_none {s : State} (h : s.metrology.heldSets = []) : releaseSets s = s := by
  have same : { s with metrology := { s.metrology with heldSets := s.metrology.heldSets } } = s := rfl
  rw [h] at same
  rw [releaseSets, h]
  exact same

/-- Without a set held, the notice that closes the second does no more than that (R28). -/
theorem exec_boundaryNotice_closes_alone {s : State} {b : BoundaryNotice} {bs : List BoundaryNotice}
    (hs : s.store.state = .running) (h : s.wires.notices = b :: bs) (none : s.metrology.notices = [])
    (full : b.count ≤ s.metrology.running.sets) (held : s.metrology.heldSets = []) :
    exec .boundaryNotice s = .next (closeSecond b (noticed s b bs)) :=
  (exec_boundaryNotice_closes hs h none full).trans
    (congrArg _ (releaseSets_none (s := closeSecond b (noticed s b bs)) held))

/-- Settles O33. -/
theorem sampleSetTake : Obligations.SampleSetTake := by
  intro s c cs running sets ahead notices held m
  refine ⟨addSet m.mean (calibrateSet m c) m.running, ?_, rfl, rfl, fun φ => ?_⟩
  · have fills : secondFull s = false := by simp [secondFull, noticeAhead, ahead, notices]
    exact (exec_sampleSetTake running sets fills held).trans
      (congrArg _ (closeWhenComplete_unnoticed (s := setAdded s c cs) notices))
  · intro k gains
    have reading : (calibrateSet m c).readings.get φ = readingOf k (c.dispositions.get φ) := PerPhase.get_of _ _
    have made {p : Int} {x y z : Nat} (hp : readingPower (m.mean.get φ) (readingOf k (c.dispositions.get φ)) = p)
        (hx : readingClipped (readingOf k (c.dispositions.get φ)) = x)
        (hy : readingSubstituted (readingOf k (c.dispositions.get φ)) = y)
        (hz : readingLost (readingOf k (c.dispositions.get φ)) = z) : gains p x y z := by
      refine ⟨?_, ?_, ?_, ?_⟩ <;> simp only [addSet, PerPhase.get_of, reading, hp, hx, hy, hz]
    refine ⟨fun x sample => made ?_ ?_ ?_ ?_, fun subst => made ?_ ?_ ?_ ?_, fun lost => made ?_ ?_ ?_ ?_,
      fun disabled => made ?_ ?_ ?_ ?_⟩
    · rw [sample]; rfl
    · rw [sample, readingOf]
      cases clippedSample k x <;> rfl
    · rw [sample]; rfl
    · rw [sample]; rfl
    all_goals simp only [*]; rfl

/-! ## The close of a second (R28 to R34) -/

theorem creepSuppressed_iff (c : Nat) (x : Int) : creepSuppressed c x = true ↔ 10 * |x| < 16384 * c := by
  rw [creepSuppressed, decide_eq_true_iff, Int.abs_eq_natAbs]
  omega

/-- Settles O34. -/
theorem secondCloses : Obligations.SecondCloses := by
  intro s b bs running ahead notices held m
  refine ⟨fun short => exec_boundaryNotice_held ahead notices short, fun full some => ?closes,
    fun c cs sets last => ?orders⟩
  case closes =>
    refine ⟨summaryOf m.creepThreshold b m.running, meanCodes m.running, liveOf m.creepThreshold b m.running, ?_,
      rfl, rfl, rfl, full.symm, rfl, rfl, rfl, rfl, rfl, rfl, rfl, rfl, rfl, ?_, fun φ => ⟨?_, ?_, ?_, ?_⟩⟩
    · rw [exec_boundaryNotice_closes_alone running ahead notices full.le held, show m.notices = [] from notices]
      rfl
    · rw [full]
      rfl
    · rw [full]
      exact PerPhase.get_of _ _
    · rw [full]
      exact PerPhase.get_of _ _
    · simp only [liveOf, PerPhase.get_of]
      exact creepSuppressed_iff _ _
    · simp only [summaryOf, energySums, PerPhase.get_of, creepSuppressed_iff]
  case orders =>
    have short : m.running.sets < b.count := by omega
    have notFull : secondFull s = false := by
      simp only [secondFull, noticeAhead, ahead, notices]
      exact decide_eq_false (Nat.not_le.mpr short)
    have filled : b.count ≤ (setAdded s c cs).metrology.running.sets := last.le
    refine ⟨setAdded s c cs, noticed s b bs, closeSecond b (noticed (setAdded s c cs) b bs),
      (exec_sampleSetTake running sets notFull held).trans
        (congrArg _ (closeWhenComplete_unnoticed (s := setAdded s c cs) notices)),
      exec_boundaryNotice_closes_alone running ahead notices filled held,
      exec_boundaryNotice_held ahead notices short,
      (exec_sampleSetTake (s := noticed s b bs) running sets (decide_eq_false (Nat.not_le.mpr short)) held).trans
        (congrArg _ ?_)⟩
    exact closeWhenComplete_closes (s := setAdded (noticed s b bs) c cs) running rfl filled

end Sys2Proof.Machine
end

section
/-! PROOF. The netting unit: the second that is taken or held, and the acknowledgments (R39, R41 to R43, R45, R46,
R49 to R51, R53). -/

namespace Sys2Proof.Machine

theorem importPart_eq (k : Int) : importPart k = (max k 0).toNat := by
  unfold importPart
  split <;> omega

theorem exportPart_eq (k : Int) : exportPart k = (max (-k) 0).toNat := by
  unfold exportPart
  split <;> omega

/-- The next summary on its way is taken at once by a unit that waits for nothing and holds none (R41). -/
theorem exec_nettingSummary_taken {s : State} {y : Summary} {ys : List Summary} (h : s.wires.toNetting = y :: ys)
    (free : s.netting.awaiting = false) (none : s.netting.held = []) :
    exec .nettingSummaryArrival s = .next (takeSecond y { s with wires := { s.wires with toNetting := ys } }) := by
  change execNettingSummaryArrival s = _
  rw [execNettingSummaryArrival, h]
  exact congrArg _ (if_pos (by simp [free, none]))

theorem exec_nettingSummary_held {s : State} {y : Summary} {ys : List Summary} (h : s.wires.toNetting = y :: ys)
    (busy : s.netting.awaiting = true ∨ s.netting.held ≠ []) :
    exec .nettingSummaryArrival s = .next { s with
      netting := { s.netting with held := s.netting.held ++ [y] }, wires := { s.wires with toNetting := ys } } := by
  change execNettingSummaryArrival s = _
  rw [execNettingSummaryArrival, h]
  refine congrArg _ (if_neg ?_)
  rcases busy with busy | busy <;> simp [busy]

/-- Settles O35. -/
theorem nettingTakesSecond : Obligations.NettingTakesSecond := by
  intro s y ys arrives
  refine ⟨exec_nettingSummary_held arrives, fun free none => ?_⟩
  intro Q a k kS QT kT pos neg bill d h
  have imports : importPart = pos := funext importPart_eq
  have exports : exportPart = neg := funext exportPart_eq
  have billImport : billingImport s.netting.basis (.of k) kS = bill pos := by
    simp only [bill, billingImport, imports]
    cases s.netting.basis <;> rfl
  have billExport : billingExport s.netting.basis (.of k) kS = bill neg := by
    simp only [bill, billingExport, exports]
    cases s.netting.basis <;> rfl
  have dispatch : dispatchOf s y = d := by
    change (⟨y.start, y.finish, billingImport s.netting.basis (.of k) kS, billingExport s.netting.basis (.of k) kS,
      s.netting.basis, .of k, kS, y.clipped, y.substituted, y.lost, s.pulse.test⟩ : Dispatch) = d
    rw [billImport, billExport]
  have handOff : handOffOf s y = h := by
    rw [handOffOf, dispatch, imports, exports]
    rfl
  have totals : gainTotals s.netting.totals d.quanta d.sumQuanta =
      ⟨.of fun φ => (s.netting.totals.phaseImport.get φ + pos (k φ)) % 1000000000,
        .of fun φ => (s.netting.totals.phaseExport.get φ + neg (k φ)) % 1000000000,
        (s.netting.totals.sumImport + pos kS) % 1000000000, (s.netting.totals.sumExport + neg kS) % 1000000000⟩ := by
    rw [gainTotals, imports, exports]
    rfl
  rw [exec_nettingSummary_taken arrives free none]
  refine congrArg _ ?_
  change { s with
    netting := { s.netting with
      accumulators := stepAccumulators a y
      testAccumulator := if s.pulse.test = true then s.netting.testAccumulator + y.sumEnergy - kT * QT else 0
      totals := gainTotals s.netting.totals (dispatchOf s y).quanta (dispatchOf s y).sumQuanta
      awaiting := true
      last := lastOf (dispatchOf s y) }
    wires := { s.wires with
      toNetting := ys
      toTariff := s.wires.toTariff ++ [dispatchOf s y]
      dispatches := s.wires.dispatches ++ [dispatchOf s y]
      handOffs := s.wires.handOffs ++ [handOffOf s y] } } = _
  rw [dispatch, handOff, totals]
  rfl

/-- The next acknowledgment on its way (R42). -/
theorem exec_dispatchAcknowledgment {s : State} {a : Acknowledgment} {rest : List Acknowledgment}
    (h : s.wires.acknowledgments = a :: rest) : exec .dispatchAcknowledgment s =
      .next (takeAcknowledgment a { s with wires := { s.wires with acknowledgments := rest } }) := by
  change execDispatchAcknowledgment s = _
  rw [execDispatchAcknowledgment, h]

/-- The netting unit after an acknowledgment that it awaits (R42, R45). -/
theorem acknowledged_eq (n : Netting) (a : Acknowledgment) :
    (if a = .opened then applyBasis { n with awaiting := false } else { n with awaiting := false }) =
      { n with
        awaiting := false
        basis := if a = .opened then n.pendingBasis.getD n.basis else n.basis
        pendingBasis := if a = .opened then none else n.pendingBasis } := by
  cases a with
  | taken => rfl
  | opened =>
    cases h : n.pendingBasis with
    | none => simp [applyBasis]
    | some b => simp [applyBasis]

/-- Settles O36. -/
theorem acknowledgments : Obligations.Acknowledgments := by
  intro s a rest arrives w basis pending
  have awaited (h : s.netting.awaiting = true) : exec .dispatchAcknowledgment s = .next (takeHeld { s with
      netting := { s.netting with awaiting := false, basis := basis, pendingBasis := pending }, wires := w }) := by
    rw [exec_dispatchAcknowledgment arrives]
    exact congrArg _ ((if_pos h).trans
      (congrArg (fun n => takeHeld { s with netting := n, wires := w }) (acknowledged_eq s.netting a)))
  refine ⟨fun idle => ?_, fun waits none => ?_, fun y ys waits held => ?_⟩
  · rw [exec_dispatchAcknowledgment arrives]
    exact congrArg _ (if_neg (by simp [idle]))
  · rw [awaited waits, takeHeld]
    simp only [none]
  · refine ⟨_, _, awaited waits, exec_nettingSummary_taken rfl rfl rfl, ?_⟩
    rw [takeHeld]
    simp only [held]
    rfl

end Sys2Proof.Machine
end

section
/-! PROOF. The calendar and the freeze days (R57, R92). -/

namespace Sys2Proof.Machine

theorem yearDays_pos (y : Nat) : 365 ≤ yearDays y := by
  unfold yearDays
  split <;> decide

/-- The day after one in a year, the fuel being enough for the days counted. -/
theorem yearFrom_succ {fuel y d : Nat} (h : d + 1 < 365 * fuel) :
    (yearFrom fuel y d).2 < yearDays (yearFrom fuel y d).1 ∧
      yearFrom fuel y (d + 1) = if (yearFrom fuel y d).2 + 1 < yearDays (yearFrom fuel y d).1 then
        ((yearFrom fuel y d).1, (yearFrom fuel y d).2 + 1) else ((yearFrom fuel y d).1 + 1, 0) := by
  induction fuel generalizing y d with
  | zero => omega
  | succ fuel ih =>
    have days := yearDays_pos y
    by_cases inYear : d < yearDays y
    · have here : yearFrom (fuel + 1) y d = (y, d) := if_pos inYear
      rw [here]
      refine ⟨inYear, ?_⟩
      by_cases next : d + 1 < yearDays y
      · rw [if_pos next]
        exact if_pos next
      · have full : d + 1 - yearDays y = 0 := by omega
        obtain ⟨left, rfl⟩ : ∃ left, fuel = left + 1 := ⟨fuel - 1, by omega⟩
        rw [if_neg next, yearFrom, if_neg next, full]
        exact if_pos (Nat.lt_of_lt_of_le (by decide) (yearDays_pos (y + 1)))
    · have here : yearFrom (fuel + 1) y d = yearFrom fuel (y + 1) (d - yearDays y) := if_neg inYear
      have after : yearFrom (fuel + 1) y (d + 1) = yearFrom fuel (y + 1) (d - yearDays y + 1) := by
        rw [yearFrom, if_neg (by omega), show d + 1 - yearDays y = d - yearDays y + 1 by omega]
      rw [here, after]
      exact ih (by omega)

/-- The day after one in a list of months: a later day of the month, or the first of the next. -/
theorem monthFrom_succ {ls : List Nat} {m d : Nat} (pos : ∀ l ∈ ls, 0 < l) (h : d < ls.sum) :
    ∃ k l, ls[k]? = some l ∧ (monthFrom ls m d).1 = m + k ∧ (monthFrom ls m d).2 < l ∧
      (d + 1 < ls.sum → monthFrom ls m (d + 1) = if (monthFrom ls m d).2 + 1 < l then
        ((monthFrom ls m d).1, (monthFrom ls m d).2 + 1) else ((monthFrom ls m d).1 + 1, 0)) ∧
      (d + 1 < ls.sum → l ≤ (monthFrom ls m d).2 + 1 → k + 1 < ls.length) ∧
      (d + 1 = ls.sum → k + 1 = ls.length ∧ (monthFrom ls m d).2 + 1 = l) := by
  induction ls generalizing m d with
  | nil => simp at h
  | cons l ls ih =>
    rw [List.sum_cons] at h ⊢
    have positive : 0 < l := pos l List.mem_cons_self
    have rest : ∀ x ∈ ls, 0 < x := fun x hx => pos x (List.mem_cons_of_mem _ hx)
    by_cases inMonth : d < l
    · have here : monthFrom (l :: ls) m d = (m, d) := if_pos inMonth
      rw [here]
      refine ⟨0, l, rfl, rfl, inMonth, fun more => ?_, fun more full => ?_, fun last => ?_⟩
      · by_cases next : d + 1 < l
        · rw [if_pos next]
          exact if_pos next
        · have full : d + 1 - l = 0 := by omega
          rw [if_neg next, monthFrom, if_neg next, full]
          cases ls with
          | nil => simp at more; omega
          | cons l' ls => exact if_pos (rest l' List.mem_cons_self)
      · cases ls with
        | nil => simp at more; omega
        | cons l' ls => simp
      · have none : ls.sum = 0 := by omega
        cases ls with
        | nil => simp at last ⊢; omega
        | cons l' ls =>
          have := rest l' List.mem_cons_self
          rw [List.sum_cons] at none
          omega
    · have here : monthFrom (l :: ls) m d = monthFrom ls (m + 1) (d - l) := if_neg inMonth
      have after : monthFrom (l :: ls) m (d + 1) = monthFrom ls (m + 1) (d - l + 1) := by
        rw [monthFrom, if_neg (by omega), show d + 1 - l = d - l + 1 by omega]
      obtain ⟨k, x, found, month, within, next, more, last⟩ := ih (m := m + 1) (d := d - l) rest (by omega)
      rw [here, after]
      refine ⟨k + 1, x, found, by omega, within, fun h => next (by omega), fun h full => ?_, fun h => ?_⟩
      · simpa using more (by omega) full
      · simpa using last (by omega)

theorem monthLengths_sum (y : Nat) : (monthLengths y).sum = yearDays y := by
  unfold monthLengths yearDays
  split <;> rfl

theorem monthLengths_pos {y l : Nat} (h : l ∈ monthLengths y) : 28 ≤ l := by
  unfold monthLengths at h
  split at h <;> simp at h <;> omega

/-- The last day of a date's month in the Gregorian calendar (R57). -/
def lastOfMonth (a : Date) : Nat :=
  if a.month = 2 then (if a.year % 4 = 0 ∧ (a.year % 100 ≠ 0 ∨ a.year % 400 = 0) then 29 else 28)
  else if a.month = 4 ∨ a.month = 6 ∨ a.month = 9 ∨ a.month = 11 then 30 else 31

theorem leapYear_iff (y : Nat) : leapYear y = true ↔ y % 4 = 0 ∧ (y % 100 ≠ 0 ∨ y % 400 = 0) := by
  simp [leapYear]

/-- The length of a month of a year is the last day of its dates. -/
theorem lastOfMonth_eq {y k l d : Nat} (h : (monthLengths y)[k]? = some l) : lastOfMonth ⟨y, k + 1, d⟩ = l := by
  have short : k < 12 := by
    have := List.getElem?_eq_some_iff.mp h
    exact this.choose
  simp only [lastOfMonth, ← leapYear_iff]
  simp only [monthLengths] at h
  generalize leapYear y = leap at h ⊢
  interval_cases k <;> simp_all

/-- The date after a date (R57). -/
def nextDate (a : Date) : Date :=
  if a.day < lastOfMonth a then ⟨a.year, a.month, a.day + 1⟩
  else if a.month < 12 then ⟨a.year, a.month + 1, 1⟩ else ⟨a.year + 1, 1, 1⟩

/-- Each day up to 65,536 is followed by the next date, and none lies beyond the end of its month (R57). -/
theorem dateOf_succ {n : Nat} (h : n ≤ 65536) :
    1 ≤ (dateOf n).day ∧ dateOf (n + 1) = nextDate (dateOf n) ∧ 28 ≤ lastOfMonth (dateOf n) := by
  obtain ⟨inYear, after⟩ := yearFrom_succ (fuel := 200) (y := 2000) (d := n) (by omega)
  unfold dateOf
  simp only
  rw [after]
  generalize yearFrom 200 2000 n = at' at inYear ⊢
  obtain ⟨y, d⟩ := at'
  simp only at inYear ⊢
  rw [← monthLengths_sum] at inYear ⊢
  obtain ⟨k, l, found, month, within, next, more, last⟩ := monthFrom_succ (m := 1)
    (fun x hx => Nat.lt_of_lt_of_le (by decide) (monthLengths_pos hx)) inYear
  have length : (monthLengths y).length = 12 := rfl
  generalize monthFrom (monthLengths y) 1 d = date at month within next more last ⊢
  obtain ⟨m, dom⟩ := date
  simp only at month within next more last ⊢
  obtain rfl : m = k + 1 := by omega
  have ends : lastOfMonth ⟨y, k + 1, dom + 1⟩ = l := lastOfMonth_eq found
  refine ⟨Nat.le_add_left 1 dom, ?_, ends ▸ monthLengths_pos (List.mem_of_getElem? found)⟩
  rw [nextDate, ends]
  by_cases inYear' : d + 1 < (monthLengths y).sum
  · rw [if_pos inYear', next inYear']
    by_cases inMonth : dom + 1 < l
    · rw [if_pos inMonth, if_pos inMonth]
    · have earlier : k + 1 < 12 := length ▸ more inYear' (by omega)
      rw [if_neg inMonth, if_neg inMonth, if_pos (show (⟨y, k + 1, dom + 1⟩ : Date).month < 12 from earlier)]
  · obtain ⟨lastMonth, lastDay⟩ := last (by omega)
    have ended : ¬ (⟨y, k + 1, dom + 1⟩ : Date).day < l := by simp only; omega
    have december : ¬ (⟨y, k + 1, dom + 1⟩ : Date).month < 12 := by simp only; omega
    rw [if_neg inYear', if_neg ended, if_neg december]
    rfl

/-! ## The latest freeze day (R92, R93) -/

/-- Days before a date in its month (R57). -/
theorem dateOf_sub {n : Nat} (h : n ≤ 65536) {i : Nat} (hi : i < (dateOf n).day) :
    i ≤ n ∧ (dateOf (n - i)).day = (dateOf n).day - i := by
  induction i with
  | zero => exact ⟨Nat.zero_le n, rfl⟩
  | succ i ih =>
    obtain ⟨le, day⟩ := ih (by omega)
    have positive : n - i ≠ 0 := fun zero => by
      rw [zero, show (dateOf 0).day = 1 from rfl] at day
      omega
    obtain ⟨before, e⟩ : ∃ before, n - i = before + 1 := ⟨n - i - 1, by omega⟩
    obtain ⟨some, next, -⟩ := dateOf_succ (n := before) (by omega)
    rw [e, next] at day
    refine ⟨by omega, ?_⟩
    rw [show n - (i + 1) = before by omega]
    unfold nextDate at day
    split at day
    · simp only at day; omega
    · split at day <;> simp only at day <;> omega

/-- A day ahead of its month's first is preceded by the last of a month of 28 days or more (R57). -/
theorem dateOf_before_month {n : Nat} (h : n ≤ 65536) (hn : (dateOf n).day ≤ n) :
    28 ≤ (dateOf (n - (dateOf n).day)).day := by
  obtain ⟨some, -, -⟩ := dateOf_succ h
  obtain ⟨-, first⟩ := dateOf_sub h (i := (dateOf n).day - 1) (by omega)
  obtain ⟨some', next, long⟩ := dateOf_succ (n := n - (dateOf n).day) (by omega)
  rw [show n - ((dateOf n).day - 1) = n - (dateOf n).day + 1 by omega, next] at first
  unfold nextDate at first
  split at first
  · simp only at first; omega
  · omega

/-- The latest freeze day at or before a day is the last of its date, if there is one (R92). -/
theorem latestFreezeDay_some {f n k : Nat} (low : 1 ≤ f) (high : f ≤ 28) (h : n ≤ 65536)
    (hk : latestFreezeDay f n = some k) :
    k ≤ n ∧ (dateOf k).day = f ∧ ∀ j, k < j → j ≤ n → (dateOf j).day ≠ f := by
  unfold latestFreezeDay at hk
  simp only at hk
  have here (j : Nat) (hj : j ≤ n) (late : n < j + (dateOf n).day) : (dateOf j).day = (dateOf n).day - (n - j) := by
    have back := dateOf_sub h (i := n - j) (by omega)
    rw [Nat.sub_sub_self hj] at back
    exact back.2
  split at hk
  · next reached =>
    obtain rfl := Option.some.inj hk
    obtain ⟨le, day⟩ := dateOf_sub h (i := (dateOf n).day - f) (by omega)
    refine ⟨by omega, by omega, fun j after le' => ?_⟩
    have := here j le' (by omega)
    omega
  · next notReached =>
    split at hk
    · exact nomatch hk
    · next past =>
      obtain rfl := Option.some.inj hk
      have long := dateOf_before_month h (by omega)
      obtain ⟨le, day⟩ := dateOf_sub (n := n - (dateOf n).day) (by omega)
        (i := (dateOf (n - (dateOf n).day)).day - f) (by omega)
      refine ⟨by omega, by omega, fun j after le' => ?_⟩
      by_cases late : n < j + (dateOf n).day
      · have := here j le' late
        omega
      · obtain ⟨-, back⟩ := dateOf_sub (n := n - (dateOf n).day) (by omega) (i := n - (dateOf n).day - j) (by omega)
        rw [Nat.sub_sub_self (by omega)] at back
        omega

theorem latestFreezeDay_none {f n : Nat} (h : n ≤ 65536) (hk : latestFreezeDay f n = none) :
    ∀ j, j ≤ n → (dateOf j).day ≠ f := by
  unfold latestFreezeDay at hk
  simp only at hk
  split at hk
  · exact nomatch hk
  · next notReached =>
    split at hk
    · next early =>
      intro j le
      obtain ⟨-, back⟩ := dateOf_sub h (i := n - j) (by omega)
      rw [Nat.sub_sub_self le] at back
      omega
    · exact nomatch hk

/-- Settles O39. -/
theorem calendarAndFreezeDays : Obligations.CalendarAndFreezeDays := by
  refine ⟨rfl, rfl, fun n h => ⟨?_, ?_⟩, fun f n low high h =>
    ⟨fun k hk => latestFreezeDay_some low high h hk, latestFreezeDay_none h⟩⟩
  · simp only [weekdayOf, Fin.ofNat]
    omega
  · intro a leap last
    exact (dateOf_succ (by omega)).2.1

end Sys2Proof.Machine
end

section
/-! PROOF. A dispatch at the tariff unit: filing, scheduled freezes and activation (R78, R79, R89, R90, R93, R94). -/

namespace Sys2Proof.Machine

/-! ## Bands and filing (R78, R79) -/

/-- The day type of a special-day entry, the first of its day (R79). -/
theorem dayTypeAt_special {c : Schedule} {day : Nat} {before after : List SpecialDay} {e : SpecialDay}
    (h : c.special = before ++ e :: after) (hb : ∀ x ∈ before, x.day ≠ day) (he : e.day = day) :
    dayTypeAt c day = e.dayType := by
  have none : before.find? (fun x => x.day == day) = none := by simpa using hb
  rw [dayTypeAt, h, List.find?_append, none, List.find?_cons_of_pos (by simpa using he)]
  rfl

theorem dayTypeAt_week {c : Schedule} {day : Nat} (h : ∀ e ∈ c.special, e.day ≠ day) :
    dayTypeAt c day = c.week.get (weekdayOf day) := by
  have none : c.special.find? (fun x => x.day == day) = none := by simpa using h
  rw [dayTypeAt, none]

/-- The band of the last switch at or before the minute (R79). -/
theorem bandAt_reached {before after : List Switch} {w : Switch} {minute : Nat} (hw : w.minute ≤ minute)
    (ha : ∀ x ∈ after, minute < x.minute) : bandAt (before ++ w :: after) minute = w.band := by
  have later : after.filter (fun x => decide (x.minute ≤ minute)) = [] := by simpa using ha
  rw [bandAt, List.filter_append, List.filter_cons_of_pos (by simpa using hw), later, List.getLast?_concat]

/-- Before the first switch of the day the band is that of the list's last entry (R79). -/
theorem bandAt_ahead {before : List Switch} {w : Switch} {minute : Nat}
    (h : ∀ x ∈ before ++ [w], minute < x.minute) : bandAt (before ++ [w]) minute = w.band := by
  have none : (before ++ [w]).filter (fun x => decide (x.minute ≤ minute)) = [] :=
    List.filter_eq_nil_iff.mpr fun x hx => by simpa using h x hx
  rw [bandAt, none, List.getLast?_concat]
  rfl

/-- A filing adds to the register of its band and to no other (R78). -/
theorem gainRegister_get (v : Vector Nat 6) (band gain : Nat) (b : Fin 6) :
    (gainRegister v band gain).get b = if b.val + 1 = band then (v.get b + gain) % 1000000000 else v.get b := by
  unfold gainRegister
  split
  · next low =>
    have low' : band - 1 < 6 := by omega
    by_cases same : b.val + 1 = band
    · subst same
      rw [if_pos rfl]
      exact Vector.getElem_set_self b.isLt
    · rw [if_neg same]
      exact Vector.getElem_set_ne low' b.isLt (by omega)
  · next out => rw [if_neg (by omega)]

/-! ## The stages of a dispatch (R77) -/

/-- What a filing leaves as it was (R78). -/
theorem fileDispatch_shape (d : Dispatch) (u : Tariff) : ∃ r f, fileDispatch d u =
    { u with registers := r, lastFiling := f } ∧ (d.test = false → f = some (filingAt u.active d.start)) := by
  unfold fileDispatch
  split
  · next test => exact ⟨u.registers, u.lastFiling, rfl, fun h => absurd (test.symm.trans h) (by decide)⟩
  · exact ⟨_, _, rfl, fun _ => rfl⟩

theorem takeCommandFreeze_none {d : Dispatch} {s : State} (h : s.tariff.pendingFreeze = none) :
    takeCommandFreeze d s = s := by
  rw [takeCommandFreeze, h]

/-- The state after the filing of the next dispatch on its way (R77, R78). -/
def filed (s : State) (d : Dispatch) (ds : List Dispatch) : State :=
  { s with tariff := fileDispatch d s.tariff, wires := { s.wires with toTariff := ds } }

/-- A dispatch with no command freeze pending: filing, scheduled freeze and activation (R77). -/
theorem exec_tariffDispatch_unpending {s : State} {d : Dispatch} {ds : List Dispatch} (h : s.wires.toTariff = d :: ds)
    (hp : s.tariff.pendingFreeze = none) :
    exec .tariffDispatch s = .next (activateSchedule d (takeScheduledFreeze d (filed s d ds))) := by
  have unpending : (filed s d ds).tariff.pendingFreeze = none := (fileDispatch_pendingFreeze d s.tariff).trans hp
  have skips := takeCommandFreeze_none (d := d) unpending
  rw [exec_tariffDispatch h]
  exact congrArg (fun t => Host.Outcome.next (activateSchedule d (takeScheduledFreeze d t))) skips

/-- No scheduled freeze is considered with F at 0 or under an UNSET mark (R93). -/
theorem takeScheduledFreeze_skips {d : Dispatch} {s : State}
    (h : s.tariff.freezeDay = 0 ∨ d.start.marked = false) : takeScheduledFreeze d s = s :=
  if_neg (by rcases h with h | h <;> simp [h])

theorem activationDue_false {u : Tariff} {d : Dispatch} (h : u.pendingState ≠ .armed ∨ d.start.marked = false) :
    activationDue u d = false := by
  by_contra due
  rw [Bool.not_eq_false] at due
  have armed := armed_of_activationDue due
  rcases h with h | h
  · exact h armed
  · unfold activationDue at due
    split at due
    · simp [h] at due
    · exact nomatch due

theorem activateSchedule_skips {d : Dispatch} {s : State}
    (h : s.tariff.pendingState ≠ .armed ∨ d.start.marked = false) : activateSchedule d s = s :=
  if_neg (by rw [activationDue_false h]; decide)

/-- Settles O37. -/
theorem tariffFiling : Obligations.TariffFiling := by
  intro s d ds arrives unpending noFreeze noActivation
  have files : exec .tariffDispatch s = .next (filed s d ds) := by
    obtain ⟨r, f, e, -⟩ := fileDispatch_shape d s.tariff
    rw [exec_tariffDispatch_unpending arrives unpending, takeScheduledFreeze_skips (by rwa [filed, e]),
      activateSchedule_skips (by rwa [filed, e])]
  refine ⟨fun test => ?_, fun test dayType band h => ?_⟩
  · rw [files, filed, fileDispatch, if_pos test]
  intro special switches minute days bands
  have dayType_eq : dayTypeAt s.tariff.active d.start.day = dayType := by
    rcases days with ⟨before, e, after, split, earlier, same, rfl⟩ | ⟨none, rfl⟩
    · exact dayTypeAt_special split earlier same
    · exact dayTypeAt_week none
  have list_eq : switchList s.tariff.active dayType = switches := dif_pos h
  have band_eq : bandAt switches minute = band := by
    rcases bands with ⟨before, w, after, split, reached, later, rfl⟩ | ⟨ahead, ⟨empty, rfl⟩ | ⟨before, w, split, rfl⟩⟩
    · rw [split]
      exact bandAt_reached reached later
    · rw [empty]
      rfl
    · rw [split] at ahead ⊢
      exact bandAt_ahead ahead
  have filing : filingAt s.tariff.active d.start = ⟨band, dayType⟩ := by
    rw [filingAt]
    simp only [dayType_eq, list_eq]
    rw [band_eq]
  refine ⟨⟨gainRegister s.tariff.registers.imported band d.billImport,
    gainRegister s.tariff.registers.exported band d.billExport⟩, ?_,
    fun b => ⟨gainRegister_get _ _ _ _, gainRegister_get _ _ _ _⟩⟩
  rw [files, filed, fileDispatch, if_neg (by simp [test])]
  simp only [filing]

/-! ## Scheduled freezes and activation (R89, R90, R93, R94) -/

theorem takeNumberedFreeze_latched {c : FreezeCause} {day : Option Nat} {t : Stamp} {s : State}
    (h : latching s.store.state = true) : Latched .freezeTaken (takeNumberedFreeze c day t s) :=
  latched_raise (s := { s with tariff := { s.tariff with
    freezes := (freezeRecordOf s.tariff.nextFreeze c day t s :: s.tariff.freezes).take freezeListLimit } }) _ h

/-- The day that counts for a second's end (R93). -/
theorem momentOf_day {t : Stamp} (h : t.second ≤ 86400) :
    (momentOf t).day = if t.second = 86400 then t.day + 1 else t.day := by
  unfold momentOf
  split
  · rw [if_pos (by omega)]
  · rw [if_neg (by omega)]

theorem momentOf_seconds {t : Stamp} (h : t.second ≤ 86400) :
    instantSeconds (momentOf t) = t.day * 86400 + t.second := by
  unfold momentOf instantSeconds
  split
  · simp only; omega
  · rfl

/-- A scheduled freeze that is due (R90, R93). -/
theorem takeScheduledFreeze_due {d : Dispatch} {s : State} {day : Nat} (hs : latching s.store.state = true)
    (hf : 0 < s.tariff.freezeDay) (hm : d.start.marked = true) (hd : dueFreezeDay s.tariff d = some day) :
    Latched .freezeTaken (takeScheduledFreeze d s) ∧ (takeScheduledFreeze d s).tariff = { s.tariff with
      freezes := (freezeRecordOf s.tariff.nextFreeze .scheduled (some day) d.finish s ::
        s.tariff.freezes).take freezeListLimit
      nextFreeze := followingNumber s.tariff.nextFreeze
      freezeReference := some day } := by
  rw [takeScheduledFreeze, if_pos ⟨hf, hm⟩, hd]
  refine ⟨takeNumberedFreeze_latched (c := .scheduled) (day := some day) (t := d.finish) hs, ?_⟩
  simp only [takeNumberedFreeze_tariff]

theorem takeScheduledFreeze_early {d : Dispatch} {s : State} (hf : 0 < s.tariff.freezeDay)
    (hm : d.start.marked = true) (hd : dueFreezeDay s.tariff d = none) :
    (takeScheduledFreeze d s).tariff = { s.tariff with freezeReference := some (referenceFor s.tariff d) } := by
  rw [takeScheduledFreeze, if_pos ⟨hf, hm⟩, hd]

/-- A freeze is due when the latest freeze day lies after the reference (R93). -/
theorem dueFreezeDay_eq {u : Tariff} {d : Dispatch} {day : Nat}
    (h : latestFreezeDay u.freezeDay (momentOf d.finish).day = some day) :
    dueFreezeDay u d = if referenceFor u d < day then some day else none := by
  rw [dueFreezeDay, h]
  simp [Option.filter]

theorem activationDue_iff {u : Tariff} {d : Dispatch} {a : Activation} (hp : u.pendingState = .armed)
    (ha : u.activation = some a) (hm : d.start.marked = true) (hd : d.finish.second ≤ 86400) :
    activationDue u d = true ↔ a.day * 86400 + a.minute * 60 ≤ d.finish.day * 86400 + d.finish.second := by
  simp [activationDue, hp, ha, hm, momentOf_seconds hd]

/-- The pending schedule in force (R89). -/
def activated (s : State) : State :=
  { s with tariff := { s.tariff with active := s.tariff.pending, pendingState := .empty, activation := none } }

theorem activateSchedule_due {d : Dispatch} {s : State} (h : activationDue s.tariff d = true) :
    activateSchedule d s = raise .scheduleActivated
      (activated (if s.tariff.freezeOnActivation = true then takeNumberedFreeze .activation none d.finish s else s)) :=
  if_pos h

/-- A due schedule comes into force (R89). -/
theorem activateSchedule_plain {d : Dispatch} {s : State} (hs : latching s.store.state = true)
    (h : activationDue s.tariff d = true) (hf : s.tariff.freezeOnActivation = false) :
    Latched .scheduleActivated (activateSchedule d s) ∧ (activateSchedule d s).tariff = { s.tariff with
      active := s.tariff.pending, pendingState := .empty, activation := none } := by
  rw [activateSchedule_due h, if_neg (by rw [hf]; decide)]
  exact ⟨latched_raise (s := activated s) _ hs, raise_tariff _ _⟩

/-- A due schedule comes into force, behind an ACTIVATION freeze (R89, R94). -/
theorem activateSchedule_frozen_first {d : Dispatch} {s : State} (hs : latching s.store.state = true)
    (h : activationDue s.tariff d = true) (hf : s.tariff.freezeOnActivation = true) :
    Latched .scheduleActivated (activateSchedule d s) ∧ Latched .freezeTaken (activateSchedule d s) ∧
      (activateSchedule d s).tariff = { s.tariff with
        active := s.tariff.pending, pendingState := .empty, activation := none
        freezes := (freezeRecordOf s.tariff.nextFreeze .activation none d.finish s ::
          s.tariff.freezes).take freezeListLimit
        nextFreeze := followingNumber s.tariff.nextFreeze } := by
  rw [activateSchedule_due h, if_pos hf]
  have frozen := takeNumberedFreeze_latched (c := .activation) (day := none) (t := d.finish) hs
  have state : latching (takeNumberedFreeze .activation none d.finish s).store.state = true := by
    obtain ⟨f, a, l, e⟩ := takeFreeze_shape s.tariff.nextFreeze .activation none d.finish s
    simp only [takeNumberedFreeze, e]
    exact hs
  refine ⟨latched_raise (s := activated _) _ state,
    fun p => raise_latches_mono .scheduleActivated (activated _) p _ (frozen p), ?_⟩
  rw [raise_tariff]
  simp only [activated, takeNumberedFreeze_tariff]

/-- Settles O38. -/
theorem freezeAndActivation : Obligations.FreezeAndActivation := by
  intro s d ds running arrives unpending inDay endDay following
  have latches := latching_running running
  have lastDay : (momentOf d.finish).day = endDay := momentOf_day inDay
  have stages := exec_tariffDispatch_unpending arrives unpending
  obtain ⟨r, f, e, filing⟩ := fileDispatch_shape d s.tariff
  rw [filed, e] at stages
  refine ⟨fun unmarked => ?unmarked, fun marked unarmed on day latest => ?freeze,
    fun marked off armed a active => ?activation⟩
  case unmarked =>
    rw [takeScheduledFreeze_skips (.inr unmarked), activateSchedule_skips (.inr unmarked)] at stages
    exact ⟨_, stages, rfl, rfl, rfl, rfl, rfl⟩
  case freeze =>
    generalize hw : ({ s with tariff := { s.tariff with registers := r, lastFiling := f }
                              wires := { s.wires with toTariff := ds } } : State) = w at stages
    have on' : 0 < w.tariff.freezeDay := by rw [← hw]; exact on
    have unarmed' : w.tariff.pendingState ≠ .armed := by rw [← hw]; exact unarmed
    have due := dueFreezeDay_eq (u := w.tariff) (d := d) (day := day) (by rw [← hw, lastDay]; exact latest)
    have early (reference : Nat) (against : referenceFor w.tariff d = reference) (le : day ≤ reference) :
        ∃ t, exec .tariffDispatch s = .next t ∧ t.tariff.freezes = s.tariff.freezes ∧
          t.tariff.nextFreeze = s.tariff.nextFreeze ∧ t.tariff.freezeReference = some reference := by
      have none := due.trans (if_neg (by omega))
      have waits := takeScheduledFreeze_early on' marked none
      rw [activateSchedule_skips (.inl (by rw [waits]; exact unarmed'))] at stages
      refine ⟨_, stages, ?_, ?_, ?_⟩
      · rw [waits, ← hw]
      · rw [waits, ← hw]
      · rw [waits, against]
    refine ⟨fun reference fixed after => ?_, fun reference fixed le => ?_, fun unfixed first => ?_⟩
    · have against : referenceFor w.tariff d = reference := by rw [← hw, referenceFor, fixed]; rfl
      obtain ⟨latched, taken⟩ := takeScheduledFreeze_due (s := w) (by rw [← hw]; exact latches) on' marked
        (due.trans (if_pos (by omega)))
      rw [activateSchedule_skips (.inl (by rw [taken]; exact unarmed'))] at stages
      refine ⟨_, stages, latched, ?_, ?_, ?_⟩ <;> rw [taken, ← hw] <;> rfl
    · exact early reference (by rw [← hw, referenceFor, fixed]; rfl) le
    · exact early day (by rw [← hw, referenceFor]; simp only [unfixed, first]; rfl) le_rfl
  case activation =>
    generalize hw : ({ s with tariff := { s.tariff with registers := r, lastFiling := f }
                              wires := { s.wires with toTariff := ds } } : State) = w at stages
    rw [takeScheduledFreeze_skips (s := w) (.inl (by rw [← hw]; exact off))] at stages
    have latches' : latching w.store.state = true := by rw [← hw]; exact latches
    have due := activationDue_iff (u := w.tariff) (d := d) (a := a) (by rw [← hw]; exact armed)
      (by rw [← hw]; exact active) marked inDay
    refine ⟨fun reached => ?_, fun ahead => ?_⟩
    · cases option : s.tariff.freezeOnActivation with
      | false =>
        obtain ⟨latched, taken⟩ := activateSchedule_plain latches' (due.mpr reached) (by rw [← hw]; exact option)
        refine ⟨_, stages, latched, ?_, ?_, ?_, fun test => ?_, fun _ => ?_, nofun⟩ <;> rw [taken, ← hw]
        exact filing test
      | true =>
        obtain ⟨latched, frozen, taken⟩ :=
          activateSchedule_frozen_first latches' (due.mpr reached) (by rw [← hw]; exact option)
        refine ⟨_, stages, latched, ?_, ?_, ?_, fun test => ?_, nofun, fun _ => ⟨frozen, ?_, ?_⟩⟩ <;> rw [taken, ← hw]
        · exact filing test
        · rfl
        · rfl
    · have later : activationDue w.tariff d ≠ true := fun h => absurd (due.mp h) (by omega)
      rw [activateSchedule, if_neg later, ← hw] at stages
      exact ⟨_, stages, rfl, rfl, armed, active⟩

end Sys2Proof.Machine
end

section
/-! PROOF. The interval unit: the three parts of a second, the tally and its closing (R66 to R71). -/

namespace Sys2Proof.Machine

/-- An event raised in RUNNING: every latch set gains it, and every attention line is set anew (R169, R172). -/
theorem raise_running {k : EventKind} {s : State} (h : s.store.state = .running) : raise k s = { s with
    engine := { s.engine with
      latches := .of fun p => s.engine.latches.get p ||| eventSet k
      lines := .of fun p => attention .running
        ((PerPort.of fun q => s.engine.latches.get q ||| eventSet k).get p) (s.engine.enables.get p) } } := by
  rw [raise, if_pos (latching_running h), setLines]
  simp only [h]

/-! ## The second in the tally (R69, R70) -/

/-- A second that does not end the tally (R69, R70). -/
theorem takeJoined_stays {y : Summary} {e : EnvelopeStatus} {d : Dispatch} {s : State}
    (h : ¬ closesTally (addSecond s.interval.tally d e) y = true) : takeJoined y e d s = { s with
      interval := { s.interval with tally := addSecond s.interval.tally d e }
      wires := { s.wires with acknowledgments := s.wires.acknowledgments ++ [.taken] } } := if_neg h

/-- A second that ends the tally: the record, the next tally, and INTERVAL_CLOSED (R70, R71). -/
theorem takeJoined_closes {y : Summary} {e : EnvelopeStatus} {d : Dispatch} {s : State}
    (hs : s.store.state = .running) (h : closesTally (addSecond s.interval.tally d e) y = true) :
    takeJoined y e d s = { s with
      interval := openTally (nextTallyStart y) (nextTallyFlags y)
        { s.interval with tally := addSecond s.interval.tally d e }
      wires := { s.wires with
        records := s.wires.records ++ [recordOf (addSecond s.interval.tally d e) y.finish y.step.isSome false]
        acknowledgments := s.wires.acknowledgments ++ [.opened] }
      engine := { s.engine with
        latches := .of fun p => s.engine.latches.get p ||| eventSet .intervalClosed
        lines := .of fun p => attention .running
          ((PerPort.of fun q => s.engine.latches.get q ||| eventSet .intervalClosed).get p)
          (s.engine.enables.get p) } } := by
  rw [takeJoined]
  exact (if_pos h).trans (raise_running hs)

theorem closesTally_iff (t : Tally) (y : Summary) :
    closesTally t y = true ↔ y.finish.second % (60 * t.length) = 0 ∨ y.step ≠ none := by
  simp [closesTally, onBoundary, Option.isSome_iff_ne_none]

theorem isSome_eq_decide {α : Type} (x : Option α) [DecidableEq α] : x.isSome = decide (x ≠ none) := by
  cases x <;> simp

theorem offBoundary_eq (m second : Nat) : (!onBoundary m second) = decide (second % (60 * m) ≠ 0) := by
  rw [decide_not, onBoundary]
  rfl

/-- The next tally opens under the length in force, a pending one having taken force (R66, R67). -/
theorem openTally_eq (start : Stamp) (flags : IntervalFlags) (u : IntervalUnit) : openTally start flags u = { u with
    length := u.pendingLength.getD u.length
    pendingLength := none
    tally := .opened start (u.pendingLength.getD u.length) flags } := by
  obtain ⟨length, pending, tally, summaries, statuses, dispatch⟩ := u
  cases pending <;> rfl

theorem nextTallyStart_step {y : Summary} {x : Instant} (h : y.step = some x) :
    nextTallyStart y = ⟨x.day, x.second, true⟩ := by
  rw [nextTallyStart, h]
  rfl

theorem nextTallyStart_day {y : Summary} (h : y.step = none) (hd : y.finish.second < 86400) :
    nextTallyStart y = y.finish := by
  have inDay : ¬ 86400 ≤ y.finish.second := by omega
  simp [nextTallyStart, h, markTime, carryDay, dayWraps, inDay]

theorem nextTallyStart_midnight {y : Summary} (h : y.step = none) (hd : y.finish.second = 86400)
    (hl : y.finish.day < 65535) : nextTallyStart y = ⟨y.finish.day + 1, 0, y.finish.marked⟩ := by
  have more : ¬ 65535 ≤ y.finish.day := by omega
  simp [nextTallyStart, h, markTime, carryDay, dayWraps, hd, more]

/-! ## The three parts (R68) -/

theorem joinSecond_joins {s : State} {y : Summary} {ys : List Summary} {e : EnvelopeStatus}
    {es : List EnvelopeStatus} {d : Dispatch} (hy : s.interval.summaries = y :: ys) (he : s.interval.statuses = e :: es)
    (hd : s.interval.dispatch = some d) : joinSecond s = takeJoined y e d { s with
      interval := { s.interval with summaries := ys, statuses := es, dispatch := none } } := by
  simp only [joinSecond, hy, he, hd]

/-- A second one of whose parts is missing waits (R68). -/
theorem joinSecond_waits {s : State}
    (h : s.interval.summaries = [] ∨ s.interval.statuses = [] ∨ s.interval.dispatch = none) : joinSecond s = s := by
  unfold joinSecond
  split
  · next hy he hd => simp [hy, he, hd] at h
  · rfl

theorem exec_intervalSummary {s : State} {y : Summary} {ws : List Summary} (h : s.wires.toInterval = y :: ws)
    (none : s.interval.summaries = []) : exec .intervalSummaryArrival s = .next (joinSecond { s with
      interval := { s.interval with summaries := [y] }, wires := { s.wires with toInterval := ws } }) := by
  change execIntervalSummaryArrival s = _
  rw [execIntervalSummaryArrival, h, none]
  rfl

theorem exec_envelopeStatus {s : State} {e : EnvelopeStatus} {ws : List EnvelopeStatus} (h : s.wires.statuses = e :: ws)
    (none : s.interval.statuses = []) : exec .envelopeStatusArrival s = .next (joinSecond { s with
      interval := { s.interval with statuses := [e] }, wires := { s.wires with statuses := ws } }) := by
  change execEnvelopeStatusArrival s = _
  rw [execEnvelopeStatusArrival, h, none]
  rfl

theorem exec_intervalDispatch {s : State} {d : Dispatch} {ws : List Dispatch} (h : s.wires.dispatches = d :: ws)
    (free : s.interval.dispatch = none) : exec .intervalDispatchArrival s = .next (joinSecond { s with
      interval := { s.interval with dispatch := some d }, wires := { s.wires with dispatches := ws } }) := by
  change execIntervalDispatchArrival s = _
  rw [execIntervalDispatchArrival, h]
  exact congrArg _ (if_neg (by simp [free]))

/-- The state in which a second's parts have left the unit, some of the reports having been taken (R68). -/
def partsTaken (s : State) (ys : List Summary) (es : List EnvelopeStatus) (w : Wires) : State :=
  { s with interval := { s.interval with summaries := ys, statuses := es, dispatch := none }, wires := w }

/-- Settles O40. -/
theorem intervalTakesSecond : Obligations.IntervalTakesSecond := by
  intro s y e d running u closes gained short record taken
  have adds : addSecond u d e = gained := by
    simp only [addSecond, gained]
    cases u.basis <;> rfl
  have ends : closesTally (addSecond u d e) y = true ↔ closes := closesTally_iff (addSecond u d e) y
  have built : recordOf (addSecond u d e) y.finish y.step.isSome false = record := by
    simp only [adds, recordOf, offBoundary_eq, isSome_eq_decide, Bool.or_false]
    rfl
  have joins (w : Wires) (ys : List Summary) (es : List EnvelopeStatus) (records : w.records = s.wires.records)
      (acks : w.acknowledgments = s.wires.acknowledgments) :
      taken (takeJoined y e d (partsTaken s ys es w)) w ys es := by
    by_cases hc : closes
    · have e' := takeJoined_closes (s := partsTaken s ys es w) running (ends.mpr hc)
      rw [e', openTally_eq]
      refine ⟨rfl, rfl, rfl, rfl, rfl, rfl, rfl, rfl, rfl, rfl, rfl, rfl, rfl, rfl, rfl, rfl, rfl,
        fun no => absurd hc no, fun _ => ⟨?_, ?_, fun p => ⟨PerPort.get_of _ _, PerPort.get_of _ _⟩,
          rfl, rfl, rfl, rfl, rfl, rfl, rfl, ?_, fun x hx => nextTallyStart_step hx, nextTallyStart_day,
          nextTallyStart_midnight⟩⟩
      · change w.records ++ [recordOf (addSecond u d e) y.finish y.step.isSome false] = _
        rw [built, records]
      · exact congrArg (· ++ [_]) acks
      · simp only [Tally.opened, nextTallyFlags, isSome_eq_decide]
        rfl
    · have e' := takeJoined_stays (s := partsTaken s ys es w) fun h => hc (ends.mp h)
      rw [e']
      refine ⟨rfl, rfl, rfl, rfl, rfl, rfl, rfl, rfl, rfl, rfl, rfl, rfl, rfl, rfl, rfl, rfl, rfl,
        fun _ => ⟨rfl, adds, rfl, rfl, records, congrArg (· ++ [_]) acks⟩, fun yes => absurd yes hc⟩
  refine ⟨fun ws arrives none => ⟨fun missing => ?_, fun es held dispatch => ?_⟩,
    fun ws arrives none => ⟨fun missing => ?_, fun ys held dispatch => ?_⟩,
    fun ws arrives free => ⟨fun missing => ?_, fun ys es summaries statuses => ?_⟩⟩
  · rw [exec_intervalSummary arrives none]
    exact congrArg _ (joinSecond_waits (.inr missing))
  · exact ⟨_, (exec_intervalSummary arrives none).trans (congrArg _ (joinSecond_joins rfl held dispatch)),
      joins _ _ _ rfl rfl⟩
  · rw [exec_envelopeStatus arrives none]
    exact congrArg _ (joinSecond_waits (missing.imp_right .inr))
  · exact ⟨_, (exec_envelopeStatus arrives none).trans (congrArg _ (joinSecond_joins held rfl dispatch)),
      joins _ _ _ rfl rfl⟩
  · rw [exec_intervalDispatch arrives free]
    exact congrArg _ (joinSecond_waits (missing.imp_right .inl))
  · exact ⟨_, (exec_intervalDispatch arrives free).trans (congrArg _ (joinSecond_joins summaries statuses rfl)),
      joins _ _ _ rfl rfl⟩

end Sys2Proof.Machine
end

section
/-! PROOF. The envelope monitor: the summary it takes, and its expiries (R115 to R128). -/

namespace Sys2Proof.Machine

/-! ## Export power, term and limit (R116, R118, R121) -/

theorem exportPower_eq (y : Summary) : exportPower y = (max (-sumMeanPower y.sum y.sets) 0).toNat := by
  unfold exportPower
  split <;> omega

theorem countdownTerm_eq (t : Term) : countdownTerm t =
    if t.inForce = true then { t with inForce := t.inForce && decide (1 < t.validity), validity := t.validity - 1 }
    else t := by
  unfold countdownTerm
  cases t.inForce <;> rfl

theorem effectiveLimit_after (e : Envelope) (y : Summary) : effectiveLimit (envelopeAfter e y) =
    lowerLimit (if (e.term.inForce && decide (1 < e.term.validity)) = true then e.term.limit else e.fallback)
      e.site := by
  change lowerLimit (termValue { e with term := countdownTerm e.term }) e.site = _
  unfold termValue countdownTerm
  cases h : e.term.inForce <;> simp [h]

theorem lineActive_iff (m : Monitor) : lineActive m = true ↔ m.state = .curtailing ∨ m.state = .holding := by
  simp [lineActive]

theorem sensingFault_iff (y : Summary) : sensingFault y = true ↔ ∃ φ, y.quality.get φ = .lost := by
  constructor
  · intro h
    obtain ⟨φ, -, lost⟩ := List.any_eq_true.mp h
    exact ⟨φ, eq_of_beq lost⟩
  · rintro ⟨φ, lost⟩
    exact any_phases (φ := φ) (by rw [lost]; rfl)

/-! ## The monitor (R122 to R125) -/

section
variable {grace band hold limit exported : Nat} {m : Monitor}

/-- E at or below L, from a state that is not active (R125). -/
theorem evaluateNormal_below (h : m.state = .clear ∨ m.state = .overLimit) (low : exported ≤ limit) :
    evaluateNormal grace band hold limit exported m = .clear := by
  have not : ¬ limit < exported := Nat.not_lt.mpr low
  rcases h with h | h <;> simp [evaluateNormal, h, not]

theorem evaluateNormal_first (h : m.state = .clear) (above : limit < exported) :
    evaluateNormal grace band hold limit exported m =
      if grace ≤ 1 then ⟨.curtailing, .limit, 0, 0⟩ else ⟨.overLimit, .none, 1, 0⟩ := by
  simp [evaluateNormal, h, above]

theorem evaluateNormal_over (h : m.state = .overLimit) (above : limit < exported) :
    evaluateNormal grace band hold limit exported m =
      if grace ≤ m.overCount + 1 then ⟨.curtailing, .limit, 0, 0⟩ else ⟨.overLimit, .none, m.overCount + 1, 0⟩ := by
  simp [evaluateNormal, h, above]

theorem belowRelease_iff : belowRelease limit band exported = true ↔ (exported : Int) ≤ limit - band :=
  decide_eq_true_iff

theorem evaluateNormal_released (h : m.state = .curtailing) (low : (exported : Int) ≤ limit - band) :
    evaluateNormal grace band hold limit exported m = if hold ≤ 1 then .clear else ⟨.holding, m.cause, 0, 1⟩ := by
  simp [evaluateNormal, evaluateCurtailing, h, belowRelease_iff.mpr low]

theorem evaluateNormal_holds (h : m.state = .holding) (low : (exported : Int) ≤ limit - band) :
    evaluateNormal grace band hold limit exported m =
      if hold ≤ m.holdCount + 1 then .clear else ⟨.holding, m.cause, 0, m.holdCount + 1⟩ := by
  simp [evaluateNormal, h, belowRelease_iff.mpr low]

/-- E above L less B, from an active state (R125). -/
theorem evaluateNormal_curtails (h : m.state = .curtailing ∨ m.state = .holding)
    (high : ¬ (exported : Int) ≤ limit - band) :
    evaluateNormal grace band hold limit exported m = ⟨.curtailing, m.cause, 0, 0⟩ := by
  have not : ¬ belowRelease limit band exported = true := fun below => high (belowRelease_iff.mp below)
  rcases h with h | h <;> simp [evaluateNormal, evaluateCurtailing, h, not]

end

/-- State and counts survive the end of a sensing fault, whose cause becomes LIMIT (R124). -/
theorem resumeFault_fields (m : Monitor) :
    (resumeFault m).state = m.state ∧ (resumeFault m).overCount = m.overCount ∧
      (resumeFault m).holdCount = m.holdCount ∧
      (resumeFault m).cause = if m.state = .curtailing ∧ m.cause = .sensing then .limit else m.cause := by
  unfold resumeFault
  split <;> exact ⟨rfl, rfl, rfl, rfl⟩

/-- The line after a summary is that of the monitor after it (R127). -/
theorem line_after (e : Envelope) (y : Summary) :
    (envelopeAfter e y).line = lineActive (envelopeAfter e y).monitor := rfl

theorem monitor_unlimited {e : Envelope} {y : Summary} (h : effectiveLimit (envelopeAfter e y) = .unlimited) :
    (envelopeAfter e y).monitor = .clear := by
  change evaluateMonitor { e with term := countdownTerm e.term } y e.monitor = _
  have h' : effectiveLimit { e with term := countdownTerm e.term } = .unlimited := h
  rw [evaluateMonitor, h']

theorem monitor_sensing {e : Envelope} {y : Summary} {w : Nat} (h : effectiveLimit (envelopeAfter e y) = .watts w)
    (hq : ∃ φ, y.quality.get φ = .lost) : (envelopeAfter e y).monitor = ⟨.curtailing, .sensing, 0, 0⟩ := by
  change evaluateMonitor { e with term := countdownTerm e.term } y e.monitor = _
  have h' : effectiveLimit { e with term := countdownTerm e.term } = .watts w := h
  rw [evaluateMonitor, h']
  exact if_pos ((sensingFault_iff y).mpr hq)

/-- Under a limit, with every phase in order, the monitor takes the normal evaluation (R125). -/
theorem monitor_normal {e : Envelope} {y : Summary} {w : Nat} (h : effectiveLimit (envelopeAfter e y) = .watts w)
    (hq : ∀ φ, y.quality.get φ ≠ .lost) : (envelopeAfter e y).monitor =
      evaluateNormal e.grace e.band e.hold w (exportPower y) (resumeFault e.monitor) := by
  change evaluateMonitor { e with term := countdownTerm e.term } y e.monitor = _
  have h' : effectiveLimit { e with term := countdownTerm e.term } = .watts w := h
  have noFault : ¬ sensingFault y = true := fun fault => by
    obtain ⟨φ, lost⟩ := (sensingFault_iff y).mp fault
    exact hq φ lost
  rw [evaluateMonitor, h']
  exact if_neg noFault

/-! ## The summary (R115, R127, R128) -/

/-- The events of a summary (R118, R127). -/
theorem takeEnvelopeSummary_latched {y : Summary} {s : State} (hs : latching s.store.state = true) :
    (termLapses s.envelope.term = true → Latched .limitLapsed (takeEnvelopeSummary y s)) ∧
      (s.envelope.line = false → (envelopeAfter s.envelope y).line = true →
        Latched .curtailOn (takeEnvelopeSummary y s)) ∧
      (s.envelope.line = true → (envelopeAfter s.envelope y).line = false →
        Latched .curtailOff (takeEnvelopeSummary y s)) := by
  unfold takeEnvelopeSummary
  simp only
  refine ⟨fun lapses => Latched.raiseIf (Latched.raiseIf ?_ _ _) _ _, fun off on => Latched.raiseIf ?_ _ _,
    fun on off => ?_⟩
  · rw [lapses]
    exact latched_raise _ hs
  · rw [off, on]
    exact latched_raise _ (by rw [raiseIf_store]; exact hs)
  · rw [off, on]
    exact latched_raise _ (by rw [raiseIf_store, raiseIf_store]; exact hs)

/-- The next summary on its way is taken whole (R115). -/
theorem exec_envelopeSummary {s : State} {y : Summary} {ys : List Summary} (h : s.wires.toEnvelope = y :: ys) :
    envelopeSummary s = takeEnvelopeSummary y { s with wires := { s.wires with toEnvelope := ys } } := by
  rw [envelopeSummary, h]

theorem takeEnvelopeSummary_envelope (y : Summary) (s : State) :
    (takeEnvelopeSummary y s).envelope = envelopeAfter s.envelope y ∧
      (takeEnvelopeSummary y s).wires.statuses =
        s.wires.statuses ++ [statusOf (envelopeAfter s.envelope y) y] := by
  unfold takeEnvelopeSummary
  simp only [raiseIf_envelope, raiseIf_wires, and_self]

/-- Settles O41. -/
theorem monitorTakesSummary : Obligations.MonitorTakesSummary := by
  intro s y ys running arrives e m power exported inForce limit
  have latches := latching_running running
  obtain ⟨w, a, l, shape⟩ := takeEnvelopeSummary_shape y { s with wires := { s.wires with toEnvelope := ys } }
  obtain ⟨lapsed, on, off⟩ := takeEnvelopeSummary_latched (y := y)
    (s := { s with wires := { s.wires with toEnvelope := ys } }) latches
  obtain ⟨envelope, statuses⟩ := takeEnvelopeSummary_envelope y { s with wires := { s.wires with toEnvelope := ys } }
  have takes : exec .envelopeSummaryArrival s =
    .next (takeEnvelopeSummary y { s with wires := { s.wires with toEnvelope := ys } }) :=
    congrArg _ (exec_envelopeSummary arrives)
  have exports : exportPower y = exported := exportPower_eq y
  have limited : effectiveLimit (envelopeAfter e y) = limit := effectiveLimit_after e y
  generalize takeEnvelopeSummary y { s with wires := { s.wires with toEnvelope := ys } } = t at *
  refine ⟨t, takes, ?_, ?_, ?_, ?_, ?_, fun on out => ?_, fun down up => ?_, fun up down => ?_,
    fun free => ?_, fun w limit' => ?_⟩
  · rw [shape]
    rfl
  · rw [envelope]
    exact countdownTerm_eq e.term
  · rw [envelope, ← exports]
    rfl
  · rw [envelope]
    exact lineActive_iff _
  · rw [statuses, envelope, statusOf, limited, exports]
    cases limit <;> rfl
  · refine lapsed ?_
    have on' : s.envelope.term.inForce = true := on
    have last : s.envelope.term.validity ≤ 1 := by simpa [inForce, on] using out
    simp [termLapses, on', last]
  · rw [envelope] at up
    exact on down up
  · rw [envelope] at down
    exact off up down
  · rw [envelope]
    exact monitor_unlimited (limited.trans free)
  · have limited' := limited.trans limit'
    rw [envelope]
    refine ⟨fun lost => monitor_sensing limited' lost, fun fine => ?_⟩
    intro released cause
    obtain ⟨state, overCount, holdCount, caused⟩ := resumeFault_fields m
    have caused' : (resumeFault m).cause = cause := caused
    rw [monitor_normal limited' fine, exports, ← state, ← overCount, ← holdCount, ← caused']
    exact ⟨evaluateNormal_below, evaluateNormal_first, evaluateNormal_over, evaluateNormal_released,
      evaluateNormal_holds, evaluateNormal_curtails⟩

/-- Settles O42. -/
theorem monitorExpiries : Obligations.MonitorExpiries := by
  intro s y ys running arrives
  have latches := latching_running running
  obtain ⟨lapsed, on, off⟩ := takeEnvelopeSummary_latched (y := y)
    (s := { s with wires := { s.wires with toEnvelope := ys } }) latches
  have envelope := (takeEnvelopeSummary_envelope y { s with wires := { s.wires with toEnvelope := ys } }).1
  have takes : envelopeSummary s = _ := exec_envelopeSummary arrives
  have arrival : exec .envelopeSummaryArrival s = .next (envelopeSummary s) := rfl
  rw [← takes] at lapsed on off envelope
  refine ⟨fun inForce last => ?_, fun fine standing w limited => ?_⟩
  · have lapses : termLapses s.envelope.term = true := by simp [termLapses, inForce, last]
    have event : exec .termLapse s = .next (envelopeSummary s) := congrArg _ (if_pos (by simp [arrives, lapses]))
    refine ⟨_, event, arrival, lapsed lapses, ?_⟩
    rw [envelope]
    change countdownTerm s.envelope.term = _
    simp [countdownTerm, inForce, last]
  have limited' : effectiveLimit (envelopeAfter s.envelope y) = .watts w :=
    (effectiveLimit_countdown standing).trans limited
  have normal := monitor_normal limited' fine
  obtain ⟨same, overCount, holdCount, -⟩ := resumeFault_fields s.envelope.monitor
  refine ⟨fun above state last => ?_, fun under state last => ?_⟩
  · have trips : (envelopeAfter s.envelope y).monitor = ⟨.curtailing, .limit, 0, 0⟩ := by
      rw [normal, evaluateNormal_over (same.trans state) above, overCount, if_pos last.ge]
    have line : (envelopeAfter s.envelope y).line = true := by rw [line_after, trips]; rfl
    have event : exec .graceExpiry s = .next (envelopeSummary s) :=
      congrArg _ (if_pos (by simp [graceExpires, arrives, state, trips]))
    refine ⟨_, event, arrival, ?_, ?_, fun down => on down line⟩
    · rw [envelope]
      exact trips
    · rw [envelope]
      exact line
  · have releases : (envelopeAfter s.envelope y).monitor = .clear := by
      rw [normal, evaluateNormal_holds (same.trans state) under, holdCount, if_pos last.ge]
    have line : (envelopeAfter s.envelope y).line = false := by rw [line_after, releases]; rfl
    have event : exec .holdExpiry s = .next (envelopeSummary s) :=
      congrArg _ (if_pos (by simp [holdExpires, lineActive, arrives, state, releases, limited']))
    refine ⟨_, event, arrival, ?_, ?_, fun up => off up line⟩
    · rw [envelope]
      exact releases
    · rw [envelope]
      exact line

end Sys2Proof.Machine
end

section
/-! PROOF. The pulse unit: the hand-offs and the generator (R133 to R135, R138). -/

namespace Sys2Proof.Machine

theorem handOffCurrent_iff (u : Pulse) (h : HandOff) :
    handOffCurrent u h = true ↔ h.test = u.test ∧ (u.test = true → h.divisor = u.divisor) := by
  unfold handOffCurrent
  cases u.test <;> simp

/-- In TEST the test counters gain the counts of a hand-off (R138). -/
theorem countTest_eq (u : Pulse) (h : HandOff) : countTest u h = { u with
    testImport := if u.test = true then (u.testImport + h.importCount) % 1000000000 else u.testImport
    testExport := if u.test = true then (u.testExport + h.exportCount) % 1000000000 else u.testExport } := by
  unfold countTest
  split <;> rfl

/-- An IDLE generator starts on quanta that have just come in (R135). -/
theorem wakeGenerator_eq {u : Pulse} (h : 0 < u.pendingCount) : wakeGenerator u = { u with
    pendingCount := if u.generator = .idle then u.pendingCount - 1 else u.pendingCount
    generator := if u.generator = .idle then .active else u.generator
    period := if u.generator = .idle then u.activeWidth else u.period } := by
  unfold wakeGenerator
  by_cases idle : u.generator = .idle
  · rw [if_pos ⟨idle, h⟩, if_pos idle, if_pos idle, if_pos idle, startPulse]
  · rw [if_neg fun both => idle both.1, if_neg idle, if_neg idle, if_neg idle]

/-- A current hand-off, whole (R133, R135, R138). -/
theorem takeHandOff_current {u : Pulse} {h : HandOff} (hc : handOffCurrent u h = true) :
    let sum := u.pendingCount + pulsedCount u h
    let starts : Prop := u.generator = .idle ∧ 0 < pulsedCount u h
    takeHandOff u h = { u with
      pendingCount := if starts then min 4095 sum - 1 else min 4095 sum
      dropped := min 65535 (u.dropped + (sum - 4095))
      generator := if starts then .active else u.generator
      period := if starts then u.activeWidth else u.period
      testImport := if u.test = true then (u.testImport + h.importCount) % 1000000000 else u.testImport
      testExport := if u.test = true then (u.testExport + h.exportCount) % 1000000000 else u.testExport } := by
  intro sum starts
  unfold takeHandOff
  simp only [if_pos hc, countTest_eq]
  by_cases some : 0 < pulsedCount u h
  · have starts_iff : starts ↔ u.generator = .idle := and_iff_left some
    have waits : 0 < min 4095 sum := by omega
    rw [if_pos some, wakeGenerator_eq (by exact waits)]
    simp only [starts_iff]
    rfl
  · have never : ¬ starts := fun both => some both.2
    rw [if_neg some, if_neg never, if_neg never, if_neg never]
    rfl

/-- The next hand-off on its way is taken by a powered part (R133). -/
theorem exec_pulseHandOff {s : State} {h : HandOff} {hs : List HandOff} (hr : s.store.state = .running)
    (arrives : s.wires.handOffs = h :: hs) : exec .pulseHandOff s = .next { s with
      wires := { s.wires with handOffs := hs }, pulse := takeHandOff s.pulse h } := by
  change execPulseHandOff s = _
  rw [execPulseHandOff, arrives]
  exact congrArg _ (if_neg (by simp [hr]))

/-- Settles O43. -/
theorem pulseUnit : Obligations.PulseUnit := by
  refine fun s => ⟨fun h hs running arrives => ?_, fun active => congrArg _ (if_pos active), fun gap some =>
    congrArg _ ((if_pos gap).trans (if_pos some)), fun gap none =>
    congrArg _ ((if_pos gap).trans (if_neg (Nat.not_lt.mpr none.le)))⟩
  intro w u n sum starts
  have takes := exec_pulseHandOff running arrives
  have counts : pulsedCount u h = n := rfl
  refine ⟨fun stale => ?_, fun mode divisor => ?_⟩
  · have notCurrent : ¬ handOffCurrent s.pulse h = true := fun current => by
      obtain ⟨mode, divisor⟩ := (handOffCurrent_iff _ _).mp current
      exact stale.elim (absurd mode) fun other => other.2 (divisor other.1)
    rw [takes, takeHandOff, if_neg notCurrent]
  · have current : handOffCurrent u h = true := (handOffCurrent_iff _ _).mpr ⟨mode, divisor⟩
    rw [takes, takeHandOff_current (u := u) current]
    simp only [counts]
    rfl

end Sys2Proof.Machine
end

section
/-! PROOF. The interval log: intake and commit (R99 to R102, R110, R111). -/

namespace Sys2Proof.Machine

/-! ## Contexts and CONTEXT_GAP (R110, R111) -/

/-- The gap event of one port (R111). -/
def gapStep (removed : List LogRecord) (before : PerPort Context) (t : State) (p : Port) : State :=
  if contextMoved removed (before.get p) then raiseFor .contextGap p t else t

theorem gapStep_latches {removed : List LogRecord} {before : PerPort Context} {t : State} {p q : Port}
    (hs : latching t.store.state = true) : (gapStep removed before t p).store = t.store ∧
      (gapStep removed before t p).engine.latches.get q =
        if q = p ∧ contextMoved removed (before.get p) = true then
          t.engine.latches.get q ||| eventSet .contextGap
        else t.engine.latches.get q := by
  unfold gapStep
  by_cases moved : contextMoved removed (before.get p) = true
  · rw [if_pos moved]
    refine ⟨raiseFor_store _ _ _, ?_⟩
    by_cases same : q = p
    · subst same
      rw [if_pos ⟨rfl, moved⟩, raiseFor_latches _ _ _ hs]
    · rw [if_neg fun both => same both.1, raiseFor_latches_other same]
  · rw [if_neg moved, if_neg fun both => moved both.2]
    exact ⟨rfl, rfl⟩

/-- CONTEXT_GAP is latched at the ports whose context was moved, and at no other (R111). -/
theorem raiseGaps_latches {removed : List LogRecord} {before : PerPort Context} {s : State}
    (hs : latching s.store.state = true) (p : Port) : (raiseGaps removed before s).engine.latches.get p =
      if contextMoved removed (before.get p) = true then s.engine.latches.get p ||| eventSet .contextGap
      else s.engine.latches.get p := by
  have one := gapStep_latches (removed := removed) (before := before) (t := s) (p := .utility) (q := p) hs
  have two := gapStep_latches (removed := removed) (before := before) (t := gapStep removed before s .utility)
    (p := .premises) (q := p) (by rw [one.1]; exact hs)
  have three := gapStep_latches (removed := removed) (before := before)
    (t := gapStep removed before (gapStep removed before s .utility) .premises) (p := .service) (q := p)
    (by rw [two.1, one.1]; exact hs)
  change (gapStep removed before (gapStep removed before (gapStep removed before s .utility) .premises)
    .service).engine.latches.get p = _
  rw [three.2, two.2, one.2]
  cases p <;> simp

theorem contextMoved_iff (removed : List LogRecord) (c : Context) : contextMoved removed c = true ↔
    c.reading = true ∧ (removed.filter fun r => decide (c.next ≤ r.sequence)) ≠ [] := by
  simp [contextMoved, List.filter_eq_nil_iff]

theorem oldestOr_eq (n : Nat) (rs : List LogRecord) : oldestOr n rs = (rs.head?.map LogRecord.sequence).getD n := by
  cases rs <;> rfl

/-! ## Intake (R99 to R101) -/

theorem slotCount_eq (b : IntervalRecord) : slotCount b =
    if [b.substituted.p1, b.substituted.p2, b.substituted.p3, b.lost.p1, b.lost.p2, b.lost.p3,
      b.clipped.p1, b.clipped.p2, b.clipped.p3].all (fun n => n == 0) then 1 else 2 := by
  have no (ns : List Nat) : ns.all (fun n => n == 0) = !ns.any fun n => decide (0 < n) := by
    rw [List.not_any_eq_all_not]
    exact congrArg _ (funext fun n => by cases n <;> rfl)
  rw [slotCount, hasQuality, no]
  cases List.any _ _ <;> rfl

/-- The queue entries of records that are left, and of clearings, are kept (R101). -/
theorem entryRemoved_not (removed : List LogRecord) (x : CommitEntry) : (!entryRemoved removed x) =
    match x with
    | .clear _ => true
    | .intake n _ => removed.all fun r => r.sequence != n := by
  cases x with
  | clear i => rfl
  | intake n i => exact List.not_any_eq_all_not

theorem takeRecord_full {b : IntervalRecord} {s : State} (h : 4294967296 ≤ s.log.next) : takeRecord b s = s :=
  if_pos h

/-- The log with a record taken in, before any gap is raised (R100, R101, R110). -/
def placedLog (b : IntervalRecord) (l : Log) : Log :=
  let removed := (evict (slotCount b) l.records).1
  let kept := (evict (slotCount b) l.records).2
  { l with
    records := kept ++ [⟨l.next, b⟩]
    next := l.next + 1
    contexts := .of fun p => moveContext removed (oldestOr l.next kept) (l.contexts.get p)
    queue := dropRemoved removed l.queue ++ [.intake l.next ⟨kept ++ [⟨l.next, b⟩], l.next + 1⟩] }

theorem takeRecord_eq {b : IntervalRecord} {s : State} (h : s.log.next < 4294967296) : takeRecord b s =
    raiseGaps (evict (slotCount b) s.log.records).1 s.log.contexts { s with log := placedLog b s.log } :=
  if_neg (Nat.not_le.mpr h)

/-- What an intake does: the log, and the gaps at the ports whose context it moves (R100, R111). -/
theorem takeRecord_parts {b : IntervalRecord} {s : State} (h : s.log.next < 4294967296) :
    (takeRecord b s).log = placedLog b s.log ∧ (takeRecord b s).wires = s.wires ∧
      (takeRecord b s).store = s.store ∧
      (latching s.store.state = true → ∀ p, (takeRecord b s).engine.latches.get p =
        if contextMoved (evict (slotCount b) s.log.records).1 (s.log.contexts.get p) = true then
          s.engine.latches.get p ||| eventSet .contextGap
        else s.engine.latches.get p) := by
  rw [takeRecord_eq h]
  refine ⟨raiseGaps_log _ _ _, ?_, ?_,
    fun hs p => raiseGaps_latches (s := { s with log := placedLog b s.log }) hs p⟩
  all_goals
    obtain ⟨a, l, shape⟩ := raiseGaps_shape (evict (slotCount b) s.log.records).1 s.log.contexts
      { s with log := placedLog b s.log }
    rw [shape]

/-- The next record on its way is taken in by a log that has its restored values (R100, R114). -/
theorem exec_recordIntake {s : State} {b : IntervalRecord} {bs : List IntervalRecord} (hw : .log ∉ s.store.waiting)
    (h : s.wires.records = b :: bs) :
    exec .recordIntake s = .next (takeRecord b { s with wires := { s.wires with records := bs } }) := by
  change execRecordIntake s = _
  rw [execRecordIntake, h]
  exact congrArg _ (if_neg hw)

/-- Settles O44. -/
theorem logIntakeAndCommit : Obligations.LogIntakeAndCommit := by
  refine fun s => ⟨fun b bs running idle arrives => ?intake, fun n i es queue => ?commit, fun i es queue => ?clear⟩
  case intake =>
    intro l w need
    have takes := exec_recordIntake (by rw [idle]; exact List.not_mem_nil) arrives
    refine ⟨fun full => takes.trans (congrArg _ (takeRecord_full full)), fun more => ?_⟩
    have slots : slotCount b = need := slotCount_eq b
    obtain ⟨log, wires, -, latches⟩ := takeRecord_parts (b := b) (s := { s with wires := w }) more
    have latches' := latches (latching_running running)
    simp only [placedLog] at log
    generalize hr : (evict (slotCount b) l.records).1 = removed at log latches'
    generalize hk : (evict (slotCount b) l.records).2 = kept at log latches'
    refine ⟨_, removed, kept, takes, wires, ?_, ?_, fun front x split => ?_, ?_, ?_, ?_, ?_, fun p => ?_⟩
    · rw [← hr, ← hk, evict_append]
    · rw [← hk, ← slots]
      exact evict_fits _ _
    · rw [← hk, ← slots]
      exact evict_minimal _ _ front x (hr.trans split)
    · rw [log]
    · rw [log]
    · rw [log]
      refine ⟨fun empty => ?_, fun e es queue => ?_⟩
      · rw [show s.log.queue = [] from empty]
        rfl
      · rw [show s.log.queue = e :: es from queue]
        simp only [dropRemoved, List.cons_append, entryRemoved_not]
        rfl
    · rw [log]
    · intro c missed
      have moved : contextMoved removed c = true ↔ c.reading = true ∧ missed ≠ [] := contextMoved_iff removed c
      have context : (takeRecord b { s with wires := w }).log.contexts.get p =
          moveContext removed (oldestOr l.next kept) c := by
        rw [log]
        exact PerPort.get_of _ _
      have stays (h : c.reading = false ∨ missed = []) : ¬ contextMoved removed c = true := fun yes => by
        obtain ⟨reading, some⟩ := moved.mp yes
        exact h.elim (fun idle => absurd (reading.symm.trans idle) (by decide)) some
      refine ⟨fun h => ?_, fun reading some => ⟨?_, ?_⟩, fun h => (latches' p).trans (if_neg (stays h))⟩
      · rw [context, moveContext, if_neg (stays h)]
      · rw [context, moveContext, if_pos (moved.mpr ⟨reading, some⟩), oldestOr_eq, reading]
        rfl
      · rw [latches' p, if_pos (moved.mpr ⟨reading, some⟩)]
        exact or_and_eventSet _ _
  case commit =>
    change execCommitComplete s = _
    rw [execCommitComplete, queue]
    rfl
  case clear =>
    change execCommitComplete s = _
    rw [execCommitComplete, queue]
    rfl

end Sys2Proof.Machine
end

section
/-! PROOF. The checkpoint copies (R150). -/

namespace Sys2Proof.Machine

/-- The generation of a copy whose neighbour is given (R150). -/
def generationAfter (other : Option CheckpointCopy) : Nat :=
  (other.map fun o => nextGeneration o.generation).getD 1

theorem generationAfter_none : generationAfter none = 1 := rfl

theorem generationAfter_some {c : CheckpointCopy} (h : c.generation < 4294967295) :
    generationAfter (some c) = c.generation + 1 := by
  change (c.generation + 1) % 4294967296 = c.generation + 1
  omega

/-- The write target is the copy not written last, or the one not found valid, or X (R150). -/
theorem writeTarget_x {r : Store} (h : r.lastCopy = some .y ∨ (r.lastCopy = none ∧ r.found = some .y) ∨
    (r.lastCopy = none ∧ r.found = none)) : writeTarget r = .x := by
  rcases h with h | ⟨h, hf⟩ | ⟨h, hf⟩
  · rw [writeTarget, h]
    rfl
  · rw [writeTarget, h, hf]
    rfl
  · rw [writeTarget, h, hf]
    rfl

theorem writeTarget_y {r : Store} (h : r.lastCopy = some .x ∨ (r.lastCopy = none ∧ r.found = some .x)) :
    writeTarget r = .y := by
  rcases h with h | ⟨h, hf⟩
  · rw [writeTarget, h]
    rfl
  · rw [writeTarget, h, hf]
    rfl

theorem beginCopy_x {c : CheckpointContents} {r : Store} (h : writeTarget r = .x) : beginCopy c r =
    { r with copyX := none, copyWrite := some ⟨.x, c, generationAfter r.copyY⟩ } := by
  unfold beginCopy
  rw [h]
  rfl

theorem beginCopy_y {c : CheckpointContents} {r : Store} (h : writeTarget r = .y) : beginCopy c r =
    { r with copyY := none, copyWrite := some ⟨.y, c, generationAfter r.copyX⟩ } := by
  unfold beginCopy
  rw [h]
  rfl

/-- The next checkpoint notice (R150). -/
theorem exec_checkpointNotice {s : State} {k : Nat} (h : s.wires.checkpointNotices = k + 1) :
    exec .checkpointNotice s = .next { s with
      wires := { s.wires with checkpointNotices := k }
      store := if s.store.copyWrite.isSome then { s.store with pendingCopy := some (checkpointOf s) }
        else beginCopy (checkpointOf s) s.store } := by
  refine congrArg _ ((if_neg (by rw [h]; exact Nat.succ_ne_zero k)).trans ?_)
  rw [h]
  cases s.store.copyWrite.isSome <;> rfl

theorem exec_checkpointWriteEnd {s : State} {r : Store} (h : endCopy s.store = r) :
    exec .checkpointWriteEnd s = .next { s with store := r } := by
  rw [← h]
  rfl

/-- A copy write that ends with nothing waiting (R150). -/
theorem endCopy_alone {r : Store} {w : CheckpointWrite} (hw : r.copyWrite = some w) (hp : r.pendingCopy = none) :
    endCopy r = { setCopy w.target (some w.copy) r with lastCopy := some w.target, copyWrite := none } := by
  rw [endCopy, hw]
  simp only [hp]

/-- A copy write that ends with contents waiting begins their write (R150). -/
theorem endCopy_goesOn {r : Store} {w : CheckpointWrite} {c : CheckpointContents} (hw : r.copyWrite = some w)
    (hp : r.pendingCopy = some c) : endCopy r = beginCopy c { setCopy w.target (some w.copy) r with
      lastCopy := some w.target, copyWrite := none, pendingCopy := none } := by
  rw [endCopy, hw]
  simp only [hp]

/-- Settles O45. -/
theorem checkpointWrites : Obligations.CheckpointWrites := by
  intro s now
  refine ⟨fun k some => ?notice, fun c writing => ?endX, fun c writing => ?endY⟩
  case notice =>
    intro w
    have takes := exec_checkpointNotice some
    refine ⟨fun busy => ?_, fun idle => ⟨fun target => ?_, fun target => ?_⟩⟩
    · rw [takes, if_pos (Option.isSome_iff_ne_none.mpr busy)]
      rfl
    · refine ⟨generationAfter s.store.copyY, ?_, fun none => by rw [none, generationAfter_none],
        fun c other low => by rw [other]; exact generationAfter_some low⟩
      rw [takes, if_neg (by rw [idle]; decide), beginCopy_x (writeTarget_x target)]
      rfl
    · refine ⟨generationAfter s.store.copyX, ?_, fun none => by rw [none, generationAfter_none],
        fun c other low => by rw [other]; exact generationAfter_some low⟩
      rw [takes, if_neg (by rw [idle]; decide), beginCopy_y (writeTarget_y target)]
      rfl
  case endX =>
    refine ⟨fun none => exec_checkpointWriteEnd (endCopy_alone writing none),
      fun p waits low => exec_checkpointWriteEnd ?_⟩
    rw [endCopy_goesOn writing waits, beginCopy_y (writeTarget_y (.inl rfl)), ← generationAfter_some low]
    rfl
  case endY =>
    refine ⟨fun none => exec_checkpointWriteEnd (endCopy_alone writing none),
      fun p waits low => exec_checkpointWriteEnd ?_⟩
    rw [endCopy_goesOn writing waits, beginCopy_x (writeTarget_x (.inl rfl)), ← generationAfter_some low]
    rfl

end Sys2Proof.Machine
end

section
/-! PROOF. The supply, the save, and the entry into a restore (R144 to R147, R150, R152, R153). -/

namespace Sys2Proof.Machine

/-! ## Restore kind (R150, R152) -/

theorem restoreKind_warm {r : Store} (hm : r.mark = true) (hi : r.image.isSome = true) : restoreKind r = .warm :=
  if_pos ⟨hm, hi⟩

theorem restoreKind_checkpoint {r : Store} {c : CheckpointContents} (h : r.mark = false ∨ r.image = none)
    (hc : validCheckpoint r = some c) : restoreKind r = .checkpoint := by
  rw [restoreKind, if_neg (by rcases h with h | h <;> simp [h]), hc]
  rfl

theorem restoreKind_cold {r : Store} (h : r.mark = false ∨ r.image = none) (hc : validCheckpoint r = none) :
    restoreKind r = .cold := by
  rw [restoreKind, if_neg (by rcases h with h | h <;> simp [h]), hc]
  rfl

theorem noticeFor_warm {r : Store} {i : SaveImage} (hm : r.mark = true) (hi : r.image = some i) :
    (noticeFor r).kind = .warm ∧ (noticeFor r).image = some i := by
  have kind : restoreKind r = .warm := restoreKind_warm hm (by rw [hi]; rfl)
  exact ⟨kind, (if_pos kind).trans hi⟩

theorem noticeFor_of_checkpoint {r : Store} {c : CheckpointContents} (h : r.mark = false ∨ r.image = none)
    (hc : validCheckpoint r = some c) : (noticeFor r).kind = .checkpoint ∧ (noticeFor r).checkpoint = some c := by
  have kind := restoreKind_checkpoint h hc
  exact ⟨kind, (if_pos kind).trans hc⟩

theorem noticeFor_cold {r : Store} (h : r.mark = false ∨ r.image = none) (hx : r.copyX = none) (hy : r.copyY = none) :
    (noticeFor r).kind = .cold := by
  refine restoreKind_cold h ?_
  simp [validCheckpoint, validCopy, hx, hy]

theorem validCheckpoint_x {r : Store} {x : CheckpointCopy} (hx : r.copyX = some x) (hy : r.copyY = none) :
    validCheckpoint r = some x.contents := by
  simp [validCheckpoint, validCopy, copyOf, hx, hy]

theorem validCheckpoint_y {r : Store} {y : CheckpointCopy} (hx : r.copyX = none) (hy : r.copyY = some y) :
    validCheckpoint r = some y.contents := by
  simp [validCheckpoint, validCopy, copyOf, hx, hy]

/-- With two correct copies one of them is valid, the newer when one follows the other (R150). -/
theorem validCheckpoint_both {r : Store} {x y : CheckpointCopy} (hx : r.copyX = some x) (hy : r.copyY = some y) :
    (∃ c, validCheckpoint r = some c) ∧
      (x.generation = (y.generation + 1) % 4294967296 → validCheckpoint r = some x.contents) ∧
      (y.generation = (x.generation + 1) % 4294967296 → x.generation ≠ (y.generation + 1) % 4294967296 →
        validCheckpoint r = some y.contents) := by
  have choice : validCopy r = if x.generation = (y.generation + 1) % 4294967296 then some .x
      else if y.generation = (x.generation + 1) % 4294967296 then some .y
      else if Config.ungovernedCopyIsX x.generation y.generation then some .x else some .y := by
    rw [validCopy, hx, hy]
    rfl
  have ofX (h : validCopy r = some .x) : validCheckpoint r = some x.contents := by
    rw [validCheckpoint, h, Option.bind_some, copyOf, hx, Option.map_some]
  have ofY (h : validCopy r = some .y) : validCheckpoint r = some y.contents := by
    rw [validCheckpoint, h, Option.bind_some, copyOf, hy, Option.map_some]
  refine ⟨?_, fun newer => ofX (choice.trans (if_pos newer)),
    fun newer notOlder => ofY (choice.trans ((if_neg notOlder).trans (if_pos newer)))⟩
  by_cases newerX : x.generation = (y.generation + 1) % 4294967296
  · exact ⟨_, ofX (choice.trans (if_pos newerX))⟩
  rw [if_neg newerX] at choice
  by_cases newerY : y.generation = (x.generation + 1) % 4294967296
  · exact ⟨_, ofY (choice.trans (if_pos newerY))⟩
  rw [if_neg newerY] at choice
  by_cases free : Config.ungovernedCopyIsX x.generation y.generation = true
  · exact ⟨_, ofX (choice.trans (if_pos free))⟩
  · exact ⟨_, ofY (choice.trans (if_neg free))⟩

/-! ## Entering RESTORING and DORMANT (R148, R152) -/

theorem mem_blocks (b : Block) : b ∈ blocks := by cases b <;> decide

/-- The cold schedule holds no day type but 0, and no entry (Table 5-6). -/
theorem schedule_cold_blank : Schedule.cold.revision = 0 ∧ Schedule.cold.special = [] ∧
    (∀ i, Schedule.cold.week.get i = 0) ∧ ∀ i, Schedule.cold.switches.get i = [] := by decide

/-- The store on entering RESTORING (R152, R153). -/
theorem enterRestoring_store (s : State) : ∃ x y, (enterRestoring s).store = { s.store with
    copyX := x, copyY := y, state := .restoring, mark := false, write := .idle, lastCopy := none
    found := validCopy s.store, notice := noticeFor s.store, waiting := blocks } := by
  unfold enterRestoring
  by_cases cold : (noticeFor s.store).kind = .cold
  · exact ⟨none, none, by simp only [if_pos cold]; rfl⟩
  · exact ⟨s.store.copyX, s.store.copyY, by simp only [if_neg cold]; rfl⟩

theorem enterRestoring_latches (s : State) : (enterRestoring s).engine.latches = .all 0#15 := rfl

/-- A COLD restore makes its durable changes on entering RESTORING (R152). -/
theorem enterRestoring_cold {s : State} (h : (noticeFor s.store).kind = .cold) : enterRestoring s =
    setLines { coldDurables s with
      store := { (coldDurables s).store with
        state := .restoring, mark := false, write := .idle, lastCopy := none, found := validCopy s.store
        notice := noticeFor s.store, waiting := blocks }
      engine := { (coldDurables s).engine with latches := .all 0#15, queues := .all [] } } := by
  unfold enterRestoring
  simp only [if_pos h]

/-! ## Rest and save (R146, R147) -/

theorem atRest_iff (s : State) : atRest s = true ↔ s.metrology.notices = [] ∧ s.wires.notices = [] ∧
    s.netting.held = [] ∧ s.netting.awaiting = false ∧ s.wires.toTariff = [] ∧ s.log.queue = [] ∧
    s.store.copyWrite = none ∧ s.store.pendingCopy = none ∧ s.wires.toNetting = [] ∧ s.wires.toEnvelope = [] ∧
    s.wires.toInterval = [] ∧ s.wires.records = [] ∧ s.wires.checkpointNotices = 0 := by
  simp [atRest, noticeAhead, logReady, and_assoc]

theorem exec_saveStart_due {s : State} (hs : s.store.state = .saving) (hw : s.store.write = .idle)
    (rest : atRest s = true) : exec .saveStart s = .next (if s.store.cause = .clearAll then
        { s with store := { s.store with copyX := none, copyY := none, write := .clearing } }
      else { s with store := { s.store with image := none, write := .image (imageNow s) } }) :=
  congrArg _ (if_pos (by simp [saveDue, hs, hw, rest]))

/-- A save that completes leads on to RESTORING or to DORMANT by SUPOK (R146). -/
theorem exec_saveComplete {s : State} (hs : s.store.state = .saving) (hw : s.store.write ≠ .idle) :
    exec .saveComplete s = .next (if s.store.supok then enterRestoring { s with store := finishSave s.store }
      else enterDormant { s with store := finishSave s.store }) :=
  congrArg _ (if_pos ⟨hs, hw⟩)

theorem finishSave_image {r : Store} {i : SaveImage} (h : r.write = .image i) :
    finishSave r = { r with image := some i, mark := true, write := .idle } := by
  rw [finishSave, h]

theorem finishSave_clearing {r : Store} (h : r.write = .clearing) : finishSave r = { r with write := .idle } := by
  rw [finishSave, h]

/-- Settles O46. -/
theorem supplyAndSave : Obligations.SupplyAndSave := by
  intro s
  refine ⟨fun running => ?fall, fun other => congrArg _ (if_neg other), fun other => congrArg _ (if_neg other),
    fun dormant => ?rise, fun saving idle cause held awaiting toTariff queue write pending toNetting toEnvelope
      toInterval records checkpoints notices ahead => ?image, fun saving idle cause rest => ?clearing,
    fun busy => ?busy, fun i saving write => ?saved, fun saving write mark x y => ?cleared, fun unpowered => ?powerUp⟩
  case fall =>
    obtain ⟨m, w, e⟩ := enterSaving_shape .supply { s with store := { s.store with supok := false } }
    have falls : exec .supokFall s = .next (enterSaving .supply { s with store := { s.store with supok := false } }) :=
      congrArg _ (if_pos running)
    refine ⟨_, falls, ?_⟩
    rw [e]
    exact ⟨rfl, rfl, rfl, rfl, fun φ => by rw [stopSensing, PerPhase.get_of]; exact ⟨rfl, rfl⟩,
      rfl, rfl, rfl, rfl, rfl, rfl, rfl, rfl, rfl, rfl⟩
  case rise =>
    have rises : exec .supokRise s = .next (enterRestoring { s with store := { s.store with supok := true } }) :=
      congrArg _ (if_pos dormant)
    obtain ⟨x, y, e⟩ := enterRestoring_store { s with store := { s.store with supok := true } }
    refine ⟨_, rises, ?_, ?_, ?_, enterRestoring_latches _⟩ <;> rw [e]
  case image =>
    have rest : atRest s = true := (atRest_iff s).mpr ⟨notices, ahead, held, awaiting, toTariff, queue, write, pending,
      toNetting, toEnvelope, toInterval, records, checkpoints⟩
    rw [exec_saveStart_due saving idle rest, if_neg cause]
    rfl
  case clearing => rw [exec_saveStart_due saving idle rest, if_pos cause]
  case busy =>
    refine congrArg _ (if_neg fun due => ?_)
    have rest : atRest s = true := by
      simp only [saveDue, Bool.and_eq_true] at due
      exact due.2
    obtain ⟨notices, ahead, held, awaiting, toTariff, queue, write, pending, toNetting, toEnvelope, toInterval, records,
      checkpoints⟩ := (atRest_iff s).mp rest
    simp [notices, ahead, held, awaiting, toTariff, queue, write, pending, toNetting, toEnvelope, toInterval, records,
      checkpoints] at busy
  case saved =>
    have completes := exec_saveComplete saving (by rw [write]; nofun)
    rw [finishSave_image write] at completes
    cases supok : s.store.supok with
    | false =>
      rw [if_neg (by rw [supok]; decide)] at completes
      exact ⟨_, completes, fun _ => ⟨rfl, rfl, rfl, rfl, rfl, rfl⟩, nofun⟩
    | true =>
      rw [if_pos supok] at completes
      refine ⟨_, completes, nofun, fun _ => ?_⟩
      obtain ⟨x, y, e⟩ := enterRestoring_store { s with
        store := { s.store with image := some i, mark := true, write := .idle } }
      obtain ⟨kind, image⟩ := noticeFor_warm (r := { s.store with image := some i, mark := true, write := .idle })
        (i := i) rfl rfl
      rw [e]
      exact ⟨rfl, rfl, rfl, kind, image, rfl⟩
  case cleared =>
    have completes := exec_saveComplete saving (by rw [write]; nofun)
    rw [finishSave_clearing write] at completes
    cases supok : s.store.supok with
    | false =>
      rw [if_neg (by rw [supok]; decide)] at completes
      exact ⟨_, completes, rfl, mark, x, y, rfl, fun _ => ⟨rfl, rfl, rfl, rfl, rfl⟩, nofun⟩
    | true =>
      rw [if_pos supok] at completes
      have cold : (noticeFor { s.store with write := .idle }).kind = .cold := noticeFor_cold (.inl mark) x y
      refine ⟨_, completes, ?_⟩
      rw [enterRestoring_cold (s := { s with store := { s.store with write := .idle } }) cold]
      exact ⟨rfl, rfl, rfl, rfl, rfl, nofun, fun _ => ⟨rfl, cold, rfl⟩⟩
  case powerUp =>
    have rests : exec (.powerUp false) s =
        .next (enterDormant { s with store := { s.store with supok := false, cause := .supply } }) :=
      congrArg _ (if_pos unpowered)
    have rises : exec (.powerUp true) s = .next
        (enterRestoring (enterDormant { s with store := { s.store with supok := true, cause := .supply } })) :=
      congrArg _ (if_pos unpowered)
    obtain ⟨x, y, e⟩ := enterRestoring_store
      (enterDormant { s with store := { s.store with supok := true, cause := .supply } })
    refine ⟨_, _, rests, rfl, rises, ?_, ?_⟩ <;> rw [e]
    rfl

/-- Settles O47. -/
theorem restoreKinds : Obligations.RestoreKinds := by
  intro s dormant
  have rises : exec .supokRise s = .next (enterRestoring { s with store := { s.store with supok := true } }) :=
    congrArg _ (if_pos dormant)
  generalize hr : ({ s with store := { s.store with supok := true } } : State) = r at rises
  obtain ⟨x, y, e⟩ := enterRestoring_store r
  have store : r.store = { s.store with supok := true } := by rw [← hr]
  have notice : (enterRestoring r).store.notice = noticeFor r.store := by rw [e]
  refine ⟨_, rises, ?_, ?_, ?_, ?_, fun b => ?_, fun i mark image => ?warm, fun unsaved =>
    ⟨fun x hx hy => ?checkpointX, fun y hx hy => ?checkpointY, fun x y hx hy => ?checkpoint, fun hx hy => ?cold⟩⟩
  · rw [e]
  · rw [e]
  · rw [notice, store]
    rfl
  · rw [notice, store]
    rfl
  · rw [e]
    exact mem_blocks b
  case warm =>
    rw [notice, store]
    exact noticeFor_warm mark image
  case checkpointX =>
    rw [notice, store]
    exact noticeFor_of_checkpoint unsaved (validCheckpoint_x hx hy)
  case checkpointY =>
    rw [notice, store]
    exact noticeFor_of_checkpoint unsaved (validCheckpoint_y hx hy)
  case checkpoint =>
    rw [notice, store]
    obtain ⟨⟨c, valid⟩, newerX, newerY⟩ := validCheckpoint_both (r := { s.store with supok := true }) hx hy
    obtain ⟨kind, contents⟩ := noticeFor_of_checkpoint (r := { s.store with supok := true }) unsaved valid
    exact ⟨kind, fun follows _ => contents.trans (valid.symm.trans (newerX follows)),
      fun follows other => contents.trans (valid.symm.trans (newerY follows other))⟩
  case cold =>
    have cold : (noticeFor r.store).kind = .cold := by
      rw [store]
      exact noticeFor_cold unsaved hx hy
    rw [notice]
    refine ⟨cold, ?_⟩
    rw [enterRestoring_cold cold]
    have link (φ : Phase) : (coldDurables r).assembly.links.get φ =
        { r.assembly.links.get φ with configuredClass := 2, invalidFrames := 0, lateFrames := 0 } :=
      PerPhase.get_of _ _
    have calibration (φ : Phase) : (coldDurables r).metrology.calibration.get φ = .cold := by cases φ <;> rfl
    refine ⟨rfl, rfl, fun φ => ⟨congrArg Link.configuredClass (link φ), calibration φ⟩,
      fun φ => ⟨congrArg Link.invalidFrames (link φ), congrArg Link.lateFrames (link φ)⟩,
      rfl, rfl, rfl, rfl, rfl, rfl, rfl, ?_, rfl, rfl, rfl, rfl, rfl, rfl, rfl, rfl, rfl, rfl, rfl, rfl, rfl, rfl, rfl,
      rfl, rfl, rfl⟩
    rintro x (rfl | rfl)
    · exact schedule_cold_blank
    · exact schedule_cold_blank

end Sys2Proof.Machine
end

section
/-! PROOF. Losses of supply and of the backup domain (R148, R149, R151, R155). -/

namespace Sys2Proof.Machine

/-- The link counters and classes are not lost with VDD (R149). -/
theorem losePower_link (s : State) (φ : Phase) : (losePower s).assembly.links.get φ = { Link.cold with
    configuredClass := (s.assembly.links.get φ).configuredClass
    invalidFrames := (s.assembly.links.get φ).invalidFrames
    lateFrames := (s.assembly.links.get φ).lateFrames } :=
  PerPhase.get_of _ _

theorem cutBetweenCopies_eq (s : State) : cutBetweenCopies s = { s with store := { s.store with
    copyX := if saveDue s && s.store.cause == .clearAll then none else s.store.copyX } } := by
  unfold cutBetweenCopies
  split <;> rfl

theorem cutBeforeErasure_eq (s : State) : cutBeforeErasure s = { s with store := { s.store with
    mark := if s.store.state = .restoring ∧ s.store.notice.kind = .warm ∧ blocks.all (s.store.waiting.contains ·)
      then true else s.store.mark } } := by
  unfold cutBeforeErasure
  split <;> rfl

/-- No block has taken its notice exactly when every block waits (R153). -/
theorem blocks_all_waiting (bs : List Block) : blocks.all (bs.contains ·) = true ↔ ∀ b, b ∈ bs := by
  rw [List.all_eq_true]
  constructor
  · intro h b
    simpa using h b (mem_blocks b)
  · intro h b _
    simpa using h b

/-- A backup clock tick (R149). -/
theorem tickBackup_parts (b : BackupClock) : (tickBackup b).valid = b.valid ∧
    (b.time.second < 86399 → (tickBackup b).time = ⟨b.time.day, b.time.second + 1⟩ ∧ (tickBackup b).set = b.set) ∧
    (b.time.second = 86399 → b.time.day < 65535 →
      (tickBackup b).time = ⟨b.time.day + 1, 0⟩ ∧ (tickBackup b).set = b.set) ∧
    (b.time = ⟨65535, 86399⟩ → (tickBackup b).time = ⟨0, 0⟩ ∧ (tickBackup b).set = false) := by
  refine ⟨rfl, fun inDay => ?_, fun last more => ?_, fun final => ?_⟩
  · have no : ¬ 86400 ≤ b.time.second + 1 := by omega
    simp [tickBackup, carryDay, dayWraps, no]
  · have no : ¬ 65535 ≤ b.time.day := by omega
    simp [tickBackup, carryDay, dayWraps, last, no]
  · simp [tickBackup, carryDay, dayWraps, final]

/-- Settles O48. -/
theorem powerLosses : Obligations.PowerLosses := by
  intro s settings keeps counters
  have lost (m : Bool) (c : Option CheckpointCopy) :
      settings (losePower { s with store := { s.store with mark := m, copyX := c } }) := by
    refine ⟨rfl, rfl, fun φ => ?_, rfl, rfl, rfl, rfl, rfl, rfl, rfl, rfl, rfl, rfl, rfl, rfl, rfl, rfl, rfl, rfl, rfl,
      rfl, rfl, rfl, rfl, rfl, rfl, rfl, rfl, rfl, rfl, rfl, rfl, rfl, rfl, rfl, rfl⟩
    rw [losePower_link]
  have counted (m : Bool) (c : Option CheckpointCopy) :
      counters (losePower { s with store := { s.store with mark := m, copyX := c } })
        (fun φ => (s.assembly.links.get φ).invalidFrames) (fun φ => (s.assembly.links.get φ).lateFrames) := by
    intro φ
    rw [losePower_link]
    exact ⟨rfl, rfl⟩
  have plain : keeps (losePower s) := ⟨lost s.store.mark s.store.copyX, rfl, rfl⟩
  refine ⟨fun pending => ?defeated, fun dormant => ?dormant, fun powered => ?backup,
    fun unpowered => congrArg Host.Outcome.next (congrArg resetBackup (if_pos unpowered)),
    fun running => congrArg _ (if_pos running), fun other => ⟨_, congrArg _ (if_neg other), tickBackup_parts _⟩⟩
  case defeated =>
    have due : savePending s.store.state = true := by
      rcases pending with h | h | h <;> rw [h] <;> rfl
    have defeats (cut : PowerCut) : exec (.saveDefeated cut) s = .next (losePower (applyCut cut s)) :=
      congrArg _ (if_pos due)
    have between := defeats .betweenCopies
    have before := defeats .beforeErasure
    rw [applyCut, cutBetweenCopies_eq] at between
    rw [applyCut, cutBeforeErasure_eq] at before
    refine ⟨_, _, _, defeats .plain, between, before, plain, lost s.store.mark _, lost _ s.store.copyX, rfl, rfl,
      fun saving clear idle rest => ?_, fun other => ?_, fun restoring warm all => ?_, fun other => ?_, ?_⟩
    · exact if_pos (by simp [saveDue, saving, clear, idle, rest])
    · refine if_neg fun cut => ?_
      simp only [saveDue, Bool.and_eq_true, beq_iff_eq] at cut
      obtain ⟨⟨⟨saving, -⟩, -⟩, clear⟩ := cut
      exact other.elim (absurd clear) (absurd saving)
    · exact if_pos ⟨restoring, warm, (blocks_all_waiting _).mpr all⟩
    · refine if_neg fun cut => ?_
      obtain ⟨restoring, warm, all⟩ := cut
      rcases other with other | other | ⟨b, other⟩
      · exact other restoring
      · exact other warm
      · exact other ((blocks_all_waiting _).mp all b)
    · intro x hx
      simp only [List.mem_cons, List.not_mem_nil, or_false] at hx
      rcases hx with rfl | rfl | rfl
      · exact ⟨rfl, counted s.store.mark s.store.copyX⟩
      · exact ⟨rfl, counted s.store.mark _⟩
      · exact ⟨rfl, counted _ s.store.copyX⟩
  case dormant =>
    have loses : exec .vddLoss s = .next (losePower s) := congrArg _ (if_pos dormant)
    exact ⟨_, loses, plain, rfl, counted s.store.mark s.store.copyX⟩
  case backup =>
    have loses : exec .backupDomainLoss s = .next (resetBackup (losePower s)) :=
      congrArg Host.Outcome.next (congrArg resetBackup (if_neg powered))
    have link (φ : Phase) : (resetBackup (losePower s)).assembly.links.get φ =
        { (losePower s).assembly.links.get φ with invalidFrames := 0, lateFrames := 0 } := PerPhase.get_of _ _
    obtain ⟨state, identity, classes, rest⟩ := lost s.store.mark s.store.copyX
    refine ⟨_, loses, ⟨⟨state, identity, fun φ => ?_, rest⟩, rfl, rfl⟩, rfl, fun φ => ?_⟩
    · rw [link]
      exact classes φ
    · rw [link]
      exact ⟨rfl, rfl⟩

end Sys2Proof.Machine
end

section
/-! PROOF. How the blocks set themselves from the restore notice (R19, R36, R55, R74, R75, R97, R114, R131, R132, R143,
R173). -/

namespace Sys2Proof.Machine

/-! ## Taking a notice (R153) -/

theorem takeNotice_waiting {b : Block} {f : State → State} {s : State} (hs : s.store.state = .restoring)
    (hb : b ∈ s.store.waiting) : takeNotice b f s =
      { f s with store := { (f s).store with waiting := s.store.waiting.filter fun x => x != b } } :=
  if_pos ⟨hs, hb⟩

theorem takeNotice_taken {b : Block} {f : State → State} {s : State} (hb : b ∉ s.store.waiting) :
    takeNotice b f s = s :=
  if_neg fun h => hb h.2

/-! ## Sensing and metering (R19, R36, R55, R74) -/

/-- A link after a restore (Table 1-5). -/
theorem restoreLink_eq (k : RestoreKind) (inUse : Bool) (l : Link) : restoreLink k inUse l =
    ⟨if inUse then .down else .disabled, if k = .cold then 2 else l.configuredClass, 0, 0, 0, .empty, 0,
      if k = .cold then 0 else l.invalidFrames, if k = .cold then 0 else l.lateFrames⟩ := rfl

/-- The basis after a restore: a pending one has taken force (R45, R55). -/
theorem applyBasis_basis (n : Netting) :
    (applyBasis n).basis = n.pendingBasis.getD n.basis ∧ (applyBasis n).pendingBasis = none := by
  unfold applyBasis
  cases h : n.pendingBasis with
  | none => exact ⟨rfl, h⟩
  | some b => exact ⟨rfl, rfl⟩

theorem newestEnd_concat {rs : List LogRecord} {r : LogRecord} (h : r.body.finish.second < 86400) :
    newestEnd (rs ++ [r]) = ⟨r.body.finish.day, r.body.finish.second⟩ := by
  have inDay : ¬ 86400 ≤ r.body.finish.second := by omega
  simp [newestEnd, carryDay, inDay]

/-- The restored time of a clock that reads VALID is its reading (Table 4-7). -/
theorem restoredTime_valid {n : RestoreNotice} {l : LogImage} (h : n.kind ≠ .cold) (hv : n.reading.valid = true) :
    restoredTime n l = n.reading.time := by
  unfold restoredTime
  cases hk : n.kind with
  | cold => exact absurd hk h
  | warm => exact if_pos hv
  | checkpoint => exact if_pos hv

theorem restoredTime_saved {n : RestoreNotice} {l : LogImage} {i : SaveImage} (h : n.kind = .warm)
    (hi : n.image = some i) (hv : n.reading.valid = false) : restoredTime n l = i.start := by
  simp [restoredTime, h, hv, savedTime, hi]

theorem restoredTime_newest {n : RestoreNotice} {l : LogImage} (h : n.kind = .checkpoint)
    (hv : n.reading.valid = false) : restoredTime n l = newestEnd l.records := by
  simp [restoredTime, h, hv]

theorem restoredSet_valid {n : RestoreNotice} (h : n.kind ≠ .cold) :
    restoredSet n = (n.reading.valid && n.reading.set) := by
  have warm : (n.kind != .cold) = true := bne_iff_ne.mpr h
  rw [restoredSet, warm, Bool.true_and]

section
variable {n : RestoreNotice} {i : SaveImage} {c : CheckpointContents}

/-- The metering values of a WARM notice are those of its image (Tables 3-5 and 4-7). -/
theorem restored_warm (h : n.kind = .warm) (hi : n.image = some i) :
    restoredAccumulators n = i.accumulators ∧ restoredTotals n = i.totals ∧ restoredSlew n = i.slew ∧
      restoredStep n = i.step := by
  simp [restoredAccumulators, restoredTotals, restoredSlew, restoredStep, h, hi]

/-- Accumulators, slew and step do not outlive a restore that is not WARM (Tables 3-5 and 4-7). -/
theorem restored_not_warm (h : n.kind ≠ .warm) :
    restoredAccumulators n = .zero ∧ restoredSlew n = 0 ∧ restoredStep n = none := by
  unfold restoredAccumulators restoredSlew restoredStep
  cases hk : n.kind with
  | warm => exact absurd hk h
  | cold => exact ⟨rfl, rfl, rfl⟩
  | checkpoint => exact ⟨rfl, rfl, rfl⟩

theorem restoredTotals_checkpoint (h : n.kind = .checkpoint) (hc : n.checkpoint = some c) :
    restoredTotals n = c.totals := by
  simp [restoredTotals, h, hc]

theorem restoredTotals_cold (h : n.kind = .cold) : restoredTotals n = .zero := by
  simp [restoredTotals, h]

end

/-- Settles O49. -/
theorem sensingAndMeteringRestores : Obligations.SensingAndMeteringRestores := by
  intro s restoring n took
  refine ⟨fun gone => congrArg _ (takeNotice_taken gone), fun waits => ?assembly,
    fun gone => congrArg _ (takeNotice_taken gone), fun waits => ?metrology,
    fun gone => congrArg _ (takeNotice_taken gone), fun waits => ?netting,
    fun gone => congrArg _ (takeNotice_taken gone), fun waits => ?timeBase⟩
  case assembly =>
    have takes : exec .assemblyRestore s = .next _ := congrArg Host.Outcome.next (takeNotice_waiting restoring waits)
    refine ⟨_, takes, rfl, rfl, rfl, fun φ => ?_⟩
    intro l inUse
    have used : phaseInUse (restoredPhases s) φ = true ↔ inUse := by simp [phaseInUse, inUse, restoreAssembly]
    simp only [restoreAssembly, PerPhase.get_of, restoreLink_eq, restoredQuality, used]
    exact ⟨rfl, trivial, PerPhase.get_all _ _⟩
  case metrology =>
    have takes : exec .metrologyRestore s = .next _ := congrArg Host.Outcome.next (takeNotice_waiting restoring waits)
    refine ⟨_, takes, rfl, rfl, rfl, rfl, rfl, rfl, rfl, fun warm => ⟨if_neg warm, if_neg warm⟩,
      fun cold => ⟨if_pos cold, fun φ => ?_⟩⟩
    have cold' : s.store.notice.kind = .cold := cold
    simp only [restoreMetrology, if_pos cold']
    cases φ <;> rfl
  case netting =>
    have takes : exec .nettingRestore s = .next _ := congrArg Host.Outcome.next (takeNotice_waiting restoring waits)
    obtain ⟨basis, pending⟩ := applyBasis_basis (if s.store.notice.kind = .cold then Netting.cold else s.netting)
    refine ⟨_, takes, rfl, rfl, rfl, rfl, pending, basis.trans ?_, fun i warm image => ⟨?_, ?_⟩, fun other => ?_,
      fun c checkpoint contents => ?_, fun cold => ?_⟩
    · split
      · rfl
      · rfl
    · exact (restored_warm warm image).1
    · exact (restored_warm warm image).2.1
    · exact (restored_not_warm other).1
    · exact restoredTotals_checkpoint checkpoint contents
    · exact restoredTotals_cold cold
  case timeBase =>
    have takes : exec .timeBaseRestore s = .next _ := congrArg Host.Outcome.next (takeNotice_waiting restoring waits)
    refine ⟨_, takes, rfl, rfl, fun cold => ⟨?_, ?_⟩, fun other valid => ⟨restoredTime_valid other valid, ?_⟩,
      fun other invalid => ?_, fun i warm image => ⟨?_, ?_, restoredTime_saved warm image⟩, fun other => ⟨?_, ?_⟩,
      fun checkpoint invalid none => ?_, fun rs r checkpoint invalid newest inDay => ?_⟩
    · simp [restoreTimeBase, restoredTime, show s.store.notice.kind = .cold from cold]
    · simp [restoreTimeBase, restoredSet, show s.store.notice.kind = .cold from cold]
    · rw [← Bool.true_and n.reading.set, ← valid]
      exact restoredSet_valid other
    · exact (restoredSet_valid other).trans (by rw [invalid]; rfl)
    · exact (restored_warm warm image).2.2.1
    · exact (restored_warm warm image).2.2.2
    · exact (restored_not_warm other).2.1
    · exact (restored_not_warm other).2.2
    · exact (restoredTime_newest checkpoint invalid).trans (by rw [none]; rfl)
    · exact (restoredTime_newest checkpoint invalid).trans (by rw [newest]; exact newestEnd_concat inDay)

end Sys2Proof.Machine
end

section
/-! PROOF. How interval unit, tariff, log, envelope, pulse unit and engine set themselves from the restore notice (R75,
R97, R114, R131, R132, R143, R173). -/

namespace Sys2Proof.Machine

theorem latching_restoring {s : State} (h : s.store.state = .restoring) : latching s.store.state = true := by
  rw [h]
  rfl

section
variable {n : RestoreNotice} {i : SaveImage} {c : CheckpointContents}

/-! ## The interrupted tally (R75) -/

/-- A tally of the image that has taken a second becomes a record (R75). -/
theorem interruptedRecord_warm (h : n.kind = .warm) (hi : n.image = some i) (hs : 0 < i.tally.seconds) :
    interruptedRecord n = some (recordOf i.tally (markTime i.start i.clockSet) false true) := by
  simp [interruptedRecord, h, hi, hs]

theorem interruptedRecord_not_warm (h : n.kind ≠ .warm) : interruptedRecord n = none := if_neg h

/-! ## Tariff and log (R97, R114) -/

theorem restoredTariff_warm (h : n.kind = .warm) (hi : n.image = some i) (rs : List FreezeRecord) :
    restoredRegisters n = i.registers ∧ restoredFreezeNumber n rs = i.nextFreeze ∧
      restoredPendingFreeze n = i.pendingFreeze ∧ restoredReference n rs = i.freezeReference := by
  simp [restoredRegisters, restoredFreezeNumber, restoredPendingFreeze, restoredReference, h, hi]

theorem restoredTariff_checkpoint (h : n.kind = .checkpoint) (hc : n.checkpoint = some c) :
    restoredRegisters n = c.registers ∧ restoredPendingFreeze n = none ∧
      restoredFreezeNumber n [] = c.nextFreeze ∧ restoredReference n [] = c.freezeReference := by
  have none : greaterDay c.freezeReference none = c.freezeReference := by cases c.freezeReference <;> rfl
  simp [restoredRegisters, restoredFreezeNumber, restoredPendingFreeze, restoredReference, newestScheduled, none, h, hc]

theorem restoredTariff_cold (h : n.kind = .cold) (rs : List FreezeRecord) :
    restoredRegisters n = .zero ∧ restoredFreezeNumber n rs = 1 := by
  simp [restoredRegisters, restoredFreezeNumber, h]

theorem registers_zero_get (b : Fin 6) : Registers.zero.imported.get b = 0 ∧ Registers.zero.exported.get b = 0 := by
  revert b
  decide

/-! ## The term (R131) -/

theorem restoredTerm_warm (l : LogImage) (h : n.kind = .warm) (hi : n.image = some i) :
    restoredTerm n l = rebuiltTerm n l i.term := by
  simp [restoredTerm, h, hi]

theorem restoredTerm_not_warm (l : LogImage) (h : n.kind ≠ .warm) : restoredTerm n l = (.cold, false) := by
  unfold restoredTerm
  split
  · next hk _ => exact absurd hk h
  · rfl

/-- The time elapsed since the save, by a clock that reads VALID (R131, R153). -/
theorem elapsed_eq (l : LogImage) (h : n.kind = .warm) (hi : n.image = some i) (hv : n.reading.valid = true) :
    elapsed n l = (instantSeconds n.reading.time : Int) - instantSeconds i.start := by
  rw [elapsed, restoredTime_valid (by rw [h]; nofun) hv, savedTime, hi]
  rfl

/-- A term in force is rebuilt less the time elapsed, while any is left (R131). -/
theorem rebuiltTerm_left {l : LogImage} {t : Term} {d : Nat} (ht : t.inForce = true) (hv : n.reading.valid = true)
    (he : elapsed n l = d) (hd : d < t.validity) :
    rebuiltTerm n l t = ({ t with validity := t.validity - d }, false) := by
  rw [rebuiltTerm, if_pos ht, if_pos ⟨hv, by omega, by omega⟩, he, Int.toNat_natCast]

theorem rebuiltTerm_lapses {l : LogImage} {t : Term} (ht : t.inForce = true)
    (h : n.reading.valid = false ∨ (t.validity : Int) ≤ elapsed n l) :
    rebuiltTerm n l t = (⟨false, t.limit, 0⟩, true) := by
  rw [rebuiltTerm, if_pos ht, if_neg]
  rintro ⟨valid, -, left⟩
  rcases h with h | h
  · exact absurd (h.symm.trans valid) (by decide)
  · omega

end

/-! ## Interval unit, envelope and pulse unit (R75, R131, R132, R143) -/

/-- The interval unit after its notice (Table 4-8). -/
theorem restoreInterval_parts (s : State) :
    let n := s.store.notice
    let base := if n.kind = .cold then IntervalUnit.cold else s.interval
    (restoreInterval s).interval =
      ⟨base.pendingLength.getD base.length, none,
        .opened (markTime (restoredTime n s.log.committed) (restoredSet n)) (base.pendingLength.getD base.length)
          (restoredFlags n.kind), [], [], none⟩ ∧
      (restoreInterval s).store = s.store ∧
      (restoreInterval s).wires.records = s.wires.records ++ (interruptedRecord n).toList := by
  intro n base
  unfold restoreInterval
  simp only [raiseIf_interval, raiseIf_store, raiseIf_wires, openTally_eq]
  exact ⟨rfl, trivial, rfl⟩

theorem restoreInterval_latched {s : State} (hs : latching s.store.state = true)
    (h : (interruptedRecord s.store.notice).isSome = true) : Latched .intervalClosed (restoreInterval s) := by
  unfold restoreInterval
  simp only [h, raiseIf, if_true]
  exact latched_raise _ hs

/-- The envelope monitor after its notice (Table 7-3). -/
theorem restoreEnvelope_parts (s : State) :
    let n := s.store.notice
    let base := if n.kind = .cold then Envelope.cold else s.envelope
    (restoreEnvelope s).envelope = { base with
        term := (restoredTerm n s.log.committed).1
        site := .unlimited, monitor := .clear, line := false, last := ⟨0, .zero, false⟩ } ∧
      (restoreEnvelope s).store = s.store := by
  intro n base
  unfold restoreEnvelope
  simp only [raiseIf_envelope, raiseIf_store]
  exact ⟨rfl, trivial⟩

theorem restoreEnvelope_latched {s : State} (hs : latching s.store.state = true)
    (h : (restoredTerm s.store.notice s.log.committed).2 = true) : Latched .limitLapsed (restoreEnvelope s) := by
  unfold restoreEnvelope
  simp only [h, raiseIf, if_true]
  exact latched_raise _ hs

/-- Settles O50. -/
theorem billingAndPortRestores : Obligations.BillingAndPortRestores := by
  intro s restoring n took
  have latches := latching_restoring restoring
  refine ⟨fun logged waits => ?interval, fun waits => ?tariff, fun waits => ?log, fun waits => ?envelope,
    fun waits => ?pulse, fun waits => ?engine⟩
  case interval =>
    have takes : exec .intervalRestore s = .next _ :=
      congrArg Host.Outcome.next ((if_neg logged).trans (takeNotice_waiting restoring waits))
    obtain ⟨interval, store, records⟩ := restoreInterval_parts s
    refine ⟨_, takes, ?_, ?_, ?_, ?_, ?_, ?_, ?_, ?_, ?_, ?_, fun i warm image some => ⟨?_, ?_⟩, fun other => ?_⟩
    · simp only [took, store]
    · rw [interval]
      rfl
    · rw [interval]
      rfl
    · rw [interval]
      rfl
    · rw [interval]
      change (if n.kind = .cold then IntervalUnit.cold else s.interval).pendingLength.getD
        (if n.kind = .cold then IntervalUnit.cold else s.interval).length = _
      split <;> rfl
    · rw [interval]
      rfl
    iterate 4
      · rw [interval]
    · exact restoreInterval_latched latches (by rw [interruptedRecord_warm warm image some]; rfl)
    · refine ⟨_, records.trans (by rw [interruptedRecord_warm warm image some]; rfl), rfl, rfl, Bool.or_true _,
        rfl, rfl⟩
    · exact records.trans (by rw [interruptedRecord_not_warm other]; exact List.append_nil _)
  case tariff =>
    have takes : exec .tariffRestore s = .next _ := congrArg Host.Outcome.next (takeNotice_waiting restoring waits)
    refine ⟨_, takes, rfl, rfl, rfl, fun i warm image => restoredTariff_warm warm image _,
      fun c checkpoint contents => ?_,
      fun other => ?_, fun cold => ?_⟩
    · obtain ⟨registers, pending, number, reference⟩ := restoredTariff_checkpoint checkpoint contents
      have kept : (if s.store.notice.kind = .cold then Tariff.cold else s.tariff).freezes = s.tariff.freezes := by
        rw [if_neg (by rw [show s.store.notice.kind = .checkpoint from checkpoint]; nofun)]
      refine ⟨registers, pending, fun none => ⟨?_, ?_⟩⟩
      · simp only [restoreTariff, kept, none]
        exact number
      · simp only [restoreTariff, kept, none]
        exact reference
    · simp only [restoreTariff, if_neg (show ¬ s.store.notice.kind = .cold from other), and_self]
    · obtain ⟨registers, number⟩ := restoredTariff_cold cold (if n.kind = .cold then Tariff.cold else s.tariff).freezes
      refine ⟨number, ?_, fun b => ?_⟩
      · simp only [restoreTariff, if_pos (show s.store.notice.kind = .cold from cold)]
        rfl
      · have zero : (restoreTariff s).tariff.registers = .zero := registers
        simp only [zero]
        exact registers_zero_get b
  case log =>
    have takes : exec .logRestore s = .next _ := congrArg Host.Outcome.next (takeNotice_waiting restoring waits)
    refine ⟨_, takes, rfl, rfl, fun p => PerPort.get_all _ _, fun other => ?_, fun warm => ?_,
      fun c checkpoint contents => ?_, fun cold => ?_⟩
    · simp only [restoreLog, if_neg (show ¬ s.store.notice.kind = .cold from other), and_self]
    · have warm' : s.store.notice.kind = .warm := warm
      simp [restoreLog, restoredSequence, warm']
    · have checkpoint' : s.store.notice.kind = .checkpoint := checkpoint
      have contents' : s.store.notice.checkpoint = some c := contents
      simp [restoreLog, restoredSequence, checkpoint', contents']
    · have cold' : s.store.notice.kind = .cold := cold
      simp [restoreLog, restoredSequence, cold', LogImage.cold]
  case envelope =>
    have takes : exec .envelopeRestore s = .next _ := congrArg Host.Outcome.next (takeNotice_waiting restoring waits)
    obtain ⟨envelope, store⟩ := restoreEnvelope_parts s
    have term : (restoreEnvelope s).envelope.term = (restoredTerm n s.log.committed).1 := by rw [envelope]
    refine ⟨_, takes, ?_, ?_, ?_, ?_, ?_, fun other => ?_, fun other => ?_,
      fun i d image warm saved inForce valid start finish => ⟨fun left => ?_, fun gone => ?_⟩,
      fun image warm saved inForce invalid => ?_⟩
    · simp only [took, store]
    · rw [envelope]
      rfl
    · rw [envelope]
    · rw [envelope]
    · rw [envelope]
    · rw [envelope, if_neg (show ¬ s.store.notice.kind = .cold from other)]
      exact ⟨rfl, rfl, rfl, rfl⟩
    · rw [term, restoredTerm_not_warm _ other]
      rfl
    · have elapsed := elapsed_eq s.log.committed warm saved valid
      rw [term, restoredTerm_warm _ warm saved, rebuiltTerm_left (d := d) inForce valid (by
        rw [elapsed]; unfold instantSeconds; omega) left, inForce]
    · have elapsed := elapsed_eq s.log.committed warm saved valid
      have lapses := rebuiltTerm_lapses (n := n) (l := s.log.committed) inForce (.inr (by
        rw [elapsed]; unfold instantSeconds; omega))
      rw [← restoredTerm_warm _ warm saved] at lapses
      exact ⟨by rw [term, lapses], restoreEnvelope_latched latches (by rw [lapses])⟩
    · have lapses := rebuiltTerm_lapses (n := n) (l := s.log.committed) inForce (.inl invalid)
      rw [← restoredTerm_warm _ warm saved] at lapses
      exact ⟨by rw [term, lapses], restoreEnvelope_latched latches (by rw [lapses])⟩
  case pulse =>
    have takes : exec .pulseRestore s = .next _ := congrArg Host.Outcome.next (takeNotice_waiting restoring waits)
    refine ⟨_, takes, rfl, ?_, ?_, ?_, ?_, ?_, ?_, ?_, fun other => ?_⟩
    case refine_8 =>
      simp only [restorePulse, if_neg (show ¬ s.store.notice.kind = .cold from other), and_self]
    all_goals
      simp only [restorePulse]
      split <;> rfl
  case engine =>
    have takes : exec .engineRestore s = .next _ := congrArg Host.Outcome.next (takeNotice_waiting restoring waits)
    exact ⟨_, takes, rfl, rfl, rfl, rfl, rfl, fun other => ⟨if_neg other, if_neg other⟩,
      fun cold => ⟨if_pos cold, if_pos cold⟩⟩

end Sys2Proof.Machine
end

section
/-! PROOF. The completion of a restore, and the record it may wait for (R100, R114, R153). -/

namespace Sys2Proof.Machine

/-! ## The outage length (R153) -/

/-- The outage length under a notice that gives none (R153). -/
theorem outageOf_none {s : State} (h : s.store.notice.kind ≠ .warm ∨ s.store.notice.reading.valid = false) :
    outageOf s = none := by
  refine if_neg fun warm => ?_
  obtain ⟨kind, valid, -⟩ := warm
  exact h.elim (absurd kind) fun invalid => absurd (invalid.symm.trans valid) (by decide)

/-- The outage length of a WARM restore with a clock that reads VALID (R153). -/
theorem outageOf_warm {s : State} {i : SaveImage} (h : s.store.notice.kind = .warm)
    (hv : s.store.notice.reading.valid = true) (hi : s.store.notice.image = some i) : outageOf s =
      if instantSeconds i.start ≤ instantSeconds s.timeBase.start then
        some (instantSeconds s.timeBase.start - instantSeconds i.start) else none := by
  have saved : savedTime s.store.notice = i.start := by
    rw [savedTime, hi]
    rfl
  unfold outageOf
  simp only [saved, h, hv]
  by_cases forward : instantSeconds i.start ≤ instantSeconds s.timeBase.start
  · rw [if_pos forward, if_pos ⟨trivial, trivial, by omega⟩]
    exact congrArg some (by omega)
  · rw [if_neg forward, if_neg fun all => forward (by have := all.2.2; omega)]

/-- The state whose outage length a finished restore sets (R153, steps 1 and 2). -/
def clockLoaded (s : State) : State :=
  { s with store := { s.store with
    backup := ⟨s.timeBase.start, s.timeBase.set, true⟩
    lastKind := s.store.notice.kind, lastCause := s.store.notice.cause } }

theorem finishRestore_latched {s : State} (h : s.store.state = .restoring) : Latched .restored (finishRestore s) := by
  refine latched_raise (s := setOutage (clockLoaded s)) _ ?_
  have state : (setOutage (clockLoaded s)).store.state = s.store.state := by
    unfold setOutage
    split
    · rfl
    · split <;> rfl
  rw [state]
  exact latching_restoring h

theorem finishRestore_outage_none {s : State} (h : outageOf s = none) : (finishRestore s).store.outage = none := by
  have same : outageOf (clockLoaded s) = none := h
  change (raise .restored (setOutage (clockLoaded s))).store.outage = none
  rw [raise_store, setOutage, same]

theorem finishRestore_outage_some {s : State} {d : Nat} (h : outageOf s = some d) (hd : d ≤ 4294967295) :
    (finishRestore s).store.outage = some d := by
  have same : outageOf (clockLoaded s) = some d := h
  change (raise .restored (setOutage (clockLoaded s))).store.outage = some d
  rw [raise_store, setOutage, same]
  simp only [if_pos hd]

/-! ## The completion (R153) -/

/-- A restore that completes goes on by SUPOK (R153). -/
theorem exec_restoreComplete {s : State} (hs : s.store.state = .restoring) (hw : s.store.waiting = [])
    (hr : s.wires.records = []) : exec .restoreComplete s = .next (if s.store.supok = true then
      enterRunning (finishRestore s) else enterSaving .supply (finishRestore s)) := by
  rcases execRestoreComplete_cases s with ⟨-, -, -, e⟩ | ⟨h, -⟩
  · exact e
  · rcases h with h | h | h
    · exact absurd hs h
    · exact absurd hw h
    · exact absurd hr h

/-- What a restore that completes leaves, by SUPOK, of the store, the latches and the first second (R153). -/
theorem exec_restoreComplete_parts {s : State} (hs : s.store.state = .restoring) (hw : s.store.waiting = [])
    (hr : s.wires.records = []) : ∃ t, exec .restoreComplete s = .next t ∧
      t.store = { (finishRestore s).store with
        state := t.store.state, cause := t.store.cause, write := t.store.write } ∧
      t.engine.latches = (finishRestore s).engine.latches ∧
      (s.store.supok = true → t.store.state = .running ∧ t.assembly.strobe = 0#8 ∧ t.assembly.openSets = [] ∧
        t.engine.enable = s.engine.calen ∧ t.timeBase.counted = 0 ∧ t.timeBase.start = s.timeBase.start) ∧
      (s.store.supok = false → t.store.state = .saving ∧ t.store.cause = .supply) := by
  have completes := exec_restoreComplete hs hw hr
  obtain ⟨o, a, l, f, e⟩ := finishRestore_shape s
  cases supok : s.store.supok with
  | true =>
    rw [if_pos supok] at completes
    refine ⟨_, completes, rfl, rfl, fun _ => ?_, nofun⟩
    rw [e]
    exact ⟨rfl, rfl, rfl, rfl, rfl, rfl⟩
  | false =>
    rw [if_neg (by rw [supok]; decide)] at completes
    obtain ⟨m, w, saving⟩ := enterSaving_shape .supply (finishRestore s)
    refine ⟨_, completes, ?_, ?_, nofun, fun _ => ?_⟩ <;> rw [saving]
    · rfl
    · exact ⟨rfl, rfl⟩

/-- Settles O51. -/
theorem restoreCompletes : Obligations.RestoreCompletes := by
  intro s restoring
  refine ⟨fun waits => ?waits, fun b bs logged arrives queue more => ?intake, fun idle clear => ?completes⟩
  case waits =>
    refine congrArg _ (if_neg fun all => ?_)
    obtain ⟨-, idle, clear⟩ := all
    exact waits.elim (absurd idle) (absurd clear)
  case intake =>
    obtain ⟨log, wires, store, -⟩ := takeRecord_parts (b := b)
      (s := { s with wires := { s.wires with records := bs } }) more
    refine ⟨_, (evict (slotCount b) s.log.records).2, exec_recordIntake logged arrives, store, by rw [wires], ?_,
      ⟨_, evict_append _ _⟩, ?_, ?_, ?_⟩
    all_goals rw [log]
    · rfl
    · rfl
    · rfl
    · simp only [placedLog, queue]
      rfl
  case completes =>
    obtain ⟨t, takes, store, latches, up, down⟩ := exec_restoreComplete_parts restoring idle clear
    obtain ⟨o, a, l, f, shape⟩ := finishRestore_shape s
    have latched : Latched .restored t := by
      intro p
      rw [latches]
      exact finishRestore_latched restoring p
    have outage : t.store.outage = (finishRestore s).store.outage := by rw [store]
    refine ⟨t, takes, latched, ?_, ?_, ?_, fun none => ?_, fun image warm valid saved => ?_, up, down⟩
    · rw [store, shape]
    · rw [store, shape]
    · rw [store, shape]
    · rw [outage]
      exact finishRestore_outage_none (outageOf_none none)
    · intro before now
      have length := outageOf_warm warm valid saved
      refine ⟨fun back => ?_, fun forward short => ?_⟩
      · rw [outage]
        exact finishRestore_outage_none (length.trans (if_neg (Nat.not_le.mpr back)))
      · rw [outage]
        exact finishRestore_outage_some (length.trans (if_pos forward)) short

end Sys2Proof.Machine
end
